-- ==== Sys2Proof/Word.lean ====
section
/-! DEFINITION. The fixed widths of PWMRES: the command word, the response word, the operand, and the widths of the
timer-resource registers. Bit 0 is the least significant bit of every value (R8). -/

namespace Sys2Proof

/-- A 32-bit value: an operand (R71), the reload and compare registers (R32, R33), the bus clock (R35). -/
abbrev Word := BitVec 32

/-- A 16-bit value: the prescaler register (R31). -/
abbrev Half := BitVec 16

/-- A 36-bit command word, `op` in 35:32 and `arg` in 31:0 (R71). -/
abbrev CmdWord := BitVec 36

/-- A 35-bit response word, `RESULT` in 34:32 and `DATA` in 31:0 (R75). -/
abbrev RspWord := BitVec 35

/-- A 3-bit channel code, as the strap `CH` and the field `BIND_SLOT` carry it (R20, R22). -/
abbrev Strap := BitVec 3

end Sys2Proof
end

