-- ==== Sys2Proof/Syntax.lean ====
section
/-! DEFINITION. The commands of PWMRES, one constructor for each row of spec/opcode_table.json (R72, R76). Ignored bits are
kept in the constructor, so that decoding loses nothing and "ignored" is a statement about the machine (R73, R80). -/

namespace Sys2Proof

/-- A decoded command word. -/
inductive Instr where
  /-- INIT, opcode 0x1; `arg` is ignored (R100). -/
  | init (ignored : Word)
  /-- SET_DUTY, opcode 0x2; `d` is the binary32 pattern of a percentage (R110). -/
  | setDuty (d : Word)
  /-- SET_AUTO_FREQ, opcode 0x3; `hz` is a binary32 pattern, passed on as bits (R120). -/
  | setAutoFreq (hz : Word)
  /-- SET_AUTO_PW, opcode 0x4; `us` is the binary32 pattern of a period in microseconds (R125). -/
  | setAutoPw (us : Word)
  /-- SET_ARR, opcode 0x5 (R140). -/
  | setArr (v : Word)
  /-- SET_CCR, opcode 0x6 (R141). -/
  | setCcr (v : Word)
  /-- SET_PSR, opcode 0x7; `arg[31:16]` is ignored, `v` is `arg[15:0]` (R143). -/
  | setPsr (ignored : Half) (v : Half)
  /-- ENABLE, opcode 0x8; `arg` is ignored (R150). -/
  | enable (ignored : Word)
  /-- DISABLE, opcode 0x9; `arg` is ignored (R152). -/
  | disable (ignored : Word)
  /-- GET_TIM, opcode 0xA; `arg` is ignored (R104). -/
  | getTim (ignored : Word)
  /-- RESERVED_0, opcode 0x0 (R76). -/
  | reserved0 (ignored : Word)
  /-- RESERVED_B, opcode 0xB (R76). -/
  | reservedB (ignored : Word)
  /-- RESERVED_C_TO_F, opcodes 0xC to 0xF; `op` is the opcode itself (R76). -/
  | reservedCToF (op : BitVec 4) (ignored : Word)
deriving DecidableEq, Repr

end Sys2Proof
end

