-- ==== Sys2Proof/WellFormed.lean ====
section
/-! DEFINITION. Which terms of `Instr` stand for a command word. Every field but one fills its bits of the word exactly, so
the one check is that a RESERVED_C_TO_F term carries an opcode of that row (bits 35:34 of the word are 0b11, R72). -/

namespace Sys2Proof

/-- The instruction is the reading of some command word. -/
def Instr.wellFormed : Instr → Bool
  | .init _ => true
  | .setDuty _ => true
  | .setAutoFreq _ => true
  | .setAutoPw _ => true
  | .setArr _ => true
  | .setCcr _ => true
  | .setPsr _ _ => true
  | .enable _ => true
  | .disable _ => true
  | .getTim _ => true
  | .reserved0 _ => true
  | .reservedB _ => true
  | .reservedCToF op _ => decide (12 ≤ op.toNat)

end Sys2Proof
end

