-- ==== Sys2Proof/Decode.lean ====
section
/-! DEFINITION. The decoder of the 36-bit command word, total on every word (R71, R72, R76), then the encoder, written from
the same table. A number that does not fit 36 bits is no command word and is rejected by name (R71: every command is exactly
36 bits). -/

namespace Sys2Proof

/-- `op = word[35:32]`: the command is selected by it and by nothing else (R72). -/
def CmdWord.op (w : CmdWord) : BitVec 4 := w.extractLsb' 32 4

/-- `arg = word[31:0]` (R71). -/
def CmdWord.arg (w : CmdWord) : Word := w.extractLsb' 0 32

/-- The opcode map of R72. The last arm is reached by opcodes 0xC to 0xF only (`decode_wellFormed`). -/
def decode (w : CmdWord) : Instr :=
  if w.op = 0x0#4 then .reserved0 w.arg
  else if w.op = 0x1#4 then .init w.arg
  else if w.op = 0x2#4 then .setDuty w.arg
  else if w.op = 0x3#4 then .setAutoFreq w.arg
  else if w.op = 0x4#4 then .setAutoPw w.arg
  else if w.op = 0x5#4 then .setArr w.arg
  else if w.op = 0x6#4 then .setCcr w.arg
  else if w.op = 0x7#4 then .setPsr (w.arg.extractLsb' 16 16) (w.arg.extractLsb' 0 16)
  else if w.op = 0x8#4 then .enable w.arg
  else if w.op = 0x9#4 then .disable w.arg
  else if w.op = 0xA#4 then .getTim w.arg
  else if w.op = 0xB#4 then .reservedB w.arg
  else .reservedCToF w.op w.arg

/-- Why a number is not a command word. -/
inductive DecodeError where
  /-- It needs more than 36 bits (R71). -/
  | widerThanCommandWord
deriving DecidableEq, Repr

/-- The decoder on any number whatever: rejected by name, or the instruction of its 36 bits. -/
def decodeNat (w : Nat) : Except DecodeError Instr :=
  if w < 2 ^ 36 then .ok (decode (BitVec.ofNat 36 w)) else .error .widerThanCommandWord

/-- The opcode of a command (R72). -/
def Instr.opcode : Instr → BitVec 4
  | .init _ => 0x1#4
  | .setDuty _ => 0x2#4
  | .setAutoFreq _ => 0x3#4
  | .setAutoPw _ => 0x4#4
  | .setArr _ => 0x5#4
  | .setCcr _ => 0x6#4
  | .setPsr _ _ => 0x7#4
  | .enable _ => 0x8#4
  | .disable _ => 0x9#4
  | .getTim _ => 0xA#4
  | .reserved0 _ => 0x0#4
  | .reservedB _ => 0xB#4
  | .reservedCToF op _ => op

/-- The operand field of a command, ignored bits included (R73). -/
def Instr.operand : Instr → Word
  | .init a => a
  | .setDuty d => d
  | .setAutoFreq hz => hz
  | .setAutoPw us => us
  | .setArr v => v
  | .setCcr v => v
  | .setPsr hi v => (hi ++ v : BitVec (16 + 16))
  | .enable a => a
  | .disable a => a
  | .getTim a => a
  | .reserved0 a => a
  | .reservedB a => a
  | .reservedCToF _ a => a

/-- The command word of an instruction, `{op, arg}` (R71). -/
def encode (i : Instr) : CmdWord := (i.opcode ++ i.operand : BitVec (4 + 32))

/-- The mnemonic of the row of spec/opcode_table.json that an instruction belongs to. -/
def Instr.mnemonic : Instr → String
  | .init _ => "INIT"
  | .setDuty _ => "SET_DUTY"
  | .setAutoFreq _ => "SET_AUTO_FREQ"
  | .setAutoPw _ => "SET_AUTO_PW"
  | .setArr _ => "SET_ARR"
  | .setCcr _ => "SET_CCR"
  | .setPsr _ _ => "SET_PSR"
  | .enable _ => "ENABLE"
  | .disable _ => "DISABLE"
  | .getTim _ => "GET_TIM"
  | .reserved0 _ => "RESERVED_0"
  | .reservedB _ => "RESERVED_B"
  | .reservedCToF _ _ => "RESERVED_C_TO_F"

/-- One row of spec/opcode_table.json: a word belongs to it when its bits under `mask` are `pattern`. -/
structure TableRow where
  mnemonic : String
  pattern : CmdWord
  mask : CmdWord
deriving DecidableEq, Repr

/-- The word belongs to the row. -/
abbrev TableRow.matches (r : TableRow) (w : CmdWord) : Prop := w &&& r.mask = r.pattern

/-- The thirteen rows of spec/opcode_table.json, transcribed in its order. -/
def opcodeTable : List TableRow :=
  [⟨"INIT", 0x100000000, 0xF00000000⟩, ⟨"SET_DUTY", 0x200000000, 0xF00000000⟩,
   ⟨"SET_AUTO_FREQ", 0x300000000, 0xF00000000⟩, ⟨"SET_AUTO_PW", 0x400000000, 0xF00000000⟩,
   ⟨"SET_ARR", 0x500000000, 0xF00000000⟩, ⟨"SET_CCR", 0x600000000, 0xF00000000⟩,
   ⟨"SET_PSR", 0x700000000, 0xF00000000⟩, ⟨"ENABLE", 0x800000000, 0xF00000000⟩,
   ⟨"DISABLE", 0x900000000, 0xF00000000⟩, ⟨"GET_TIM", 0xA00000000, 0xF00000000⟩,
   ⟨"RESERVED_0", 0x000000000, 0xF00000000⟩, ⟨"RESERVED_B", 0xB00000000, 0xF00000000⟩,
   ⟨"RESERVED_C_TO_F", 0xC00000000, 0xC00000000⟩]

/-- The instruction the decoder reads from the low `nbits` bits of `w`, every bit above them 0. Bits of `w` are numbered as
spec/opcode_table.json numbers them, which is the numbering of the command word (R71): no byte order enters (R55). -/
def decodeTableWord (nbits w : Nat) : Option Instr :=
  match decodeNat (w % 2 ^ nbits) with
  | .ok i => some i
  | .error _ => none

end Sys2Proof
end

