-- ==== Sys2Proof/Config.lean ====
section
/-! DEFINITION. The platform a PWMRES block is built into: the closed enumerations of the spec (channels, result codes),
the straps and parameters of one block, the registers of the timer resource, and the open parameters of R7 as opaque
constants (nothing in Lean can evaluate them or prove a value of them). -/

namespace Sys2Proof

/-- The closed enumeration of channel identifiers, `NCH = 6` (R7, D19). -/
inductive Channel where
  | ch1 | ch2 | ch3 | ch4 | ch5 | ch6
deriving DecidableEq, Repr, Inhabited

/-- One value for each channel: the compare registers `TR.CCR[k]`, the enable bits `TR.EN[k]`, the supported set. -/
structure PerChannel (α : Type) where
  ch1 : α
  ch2 : α
  ch3 : α
  ch4 : α
  ch5 : α
  ch6 : α
deriving DecidableEq, Repr, Inhabited

/-- The four failure codes of the taxonomy (R77, R162 to R165). -/
inductive Failure where
  | invalidParameter
  | configurationUnattainable
  | unsupportedChannel
  | hardwareOperationFailed
deriving DecidableEq, Repr, Inhabited

/-- A result: Ok or one of the four failures (R77). Codes 5 to 7 cannot be written down (U12). -/
inductive Result where
  | ok
  | failed (why : Failure)
deriving DecidableEq, Repr, Inhabited

/-- The constants of one block (R7, R22, R41): fixed when it is built, written by no command and by no reset. -/
structure Straps where
  /-- `CH`, the channel selector: 1 to 6 name CH1 to CH6, 0 and 7 name no channel (R22). -/
  ch : Strap
  /-- `TIM_ID`, the handle GET_TIM returns (R104). -/
  timId : Word
  /-- `ERR_PERIOD_ZERO`, the failure code of SET_DUTY when the reload value is 0 (R113, D10). -/
  errPeriodZero : Failure
deriving DecidableEq, Repr, Inhabited

/-- The registers of the timer resource that commands can change (R30, R36). -/
structure TimerRegs where
  /-- `TR.PSC`, the zero-based prescaler register (R31). -/
  psc : Half
  /-- `TR.ARR`, the reload register, 0 meaning not configured (R32). -/
  arr : Word
  /-- `TR.CCR[k]`, the compare registers (R33). -/
  ccr : PerChannel Word
  /-- `TR.EN[k]`, the enable bits (R34). -/
  en : PerChannel Bool
  /-- `TR.OTHER`, whatever else the timer resource holds, as an opaque token (R36). -/
  other : Nat
deriving DecidableEq, Repr, Inhabited

/-- The bound timer resource: its registers, and the two things no command changes (R37): the bus clock and `SUPP`. -/
structure Timer where
  regs : TimerRegs
  /-- `TR.BUSCLK`, the bus clock in hertz, an input of the environment (R35). -/
  busclk : Word
  /-- `SUPP`, the set of channels this timer resource supports (R7). -/
  supp : PerChannel Bool
deriving DecidableEq, Repr, Inhabited

/-- `TR_INIT` before its idempotence is imposed (`Timer.init` in Machine/Ops.lean imposes it): what the timer resource's own
`Init()` returns and leaves in its registers (R101, D16). Open parameter, no body. It answers registers only, so it cannot
change `TR.BUSCLK`, `SUPP` or a block. -/
opaque Config.trInitRaw : Timer → Result × TimerRegs

/-- `TR_AUTOFREQ`: what the timer resource's frequency routine returns and leaves in its registers for a frequency pattern
(R121, D17). Open parameter, no body. The first argument is the number of the draw: R121 has a model that leaves the routine open
treat its answers as drawn afresh at each call, and a routine that is a function of the other two ignores it. -/
opaque Config.trAutoFreq : Nat → Word → Timer → Result × TimerRegs

/-- `TR_STARTSTOP_OK`: whether a start or stop call with the n-th draw succeeds, drawn by the environment at each call (R151, R153, D18). -/
opaque Config.startStopOk : Nat → Bool

/-- The enable bit that a failed start or stop call with the n-th draw leaves behind, which R154 calls unspecified (U3: any value). -/
opaque Config.enAfterFailure : Nat → Bool

end Sys2Proof
end

