-- ==== Sys2Proof/Machine/State.lean ====
section
/-! DEFINITION. The state: the block's own two fields and its straps, the other blocks on the same timer resource, the timer
resource itself, and the host's side of the command port. Plain data throughout (R20 to R39, R180). -/

namespace Sys2Proof.Machine

open Sys2Proof

/-- One PWMRES instance. -/
structure Block where
  /-- The number by which the host addresses this instance's command port. The MODEL's own name for it: the spec has no
  identifier register (R180). -/
  port : Nat
  /-- The constants it was built with (R22). -/
  straps : Straps
  /-- `BLK.BIND_VALID` (R20). -/
  bindValid : Bool
  /-- `BLK.BIND_SLOT` (R20). -/
  bindSlot : Strap
deriving DecidableEq, Repr, Inhabited

/-- A response: `RESULT` and `DATA` (R75). -/
structure Response where
  result : Result
  data : Word
deriving DecidableEq, Repr, Inhabited

/-- A response, with the command port it was given on. -/
structure Reply where
  port : Nat
  response : Response
deriving DecidableEq, Repr, Inhabited

/-- What the outside world does to the system, in the one total order of R61. -/
inductive HostEvent where
  /-- The host presents a command word on a command port (R70). -/
  | command (port : Nat) (word : CmdWord)
  /-- The platform resets the block with this command port (R40, R190). -/
  | resetBlock (port : Nat)
  /-- The environment's bus clock takes another frequency (R35). -/
  | busClock (hz : Word)
  /-- The platform builds another block on the timer resource, with this command port and these constants (R22, R40, R180). -/
  | buildBlock (port : Nat) (straps : Straps)
  /-- The platform removes the block with this command port (R24). -/
  | removeBlock (port : Nat)
deriving DecidableEq, Repr

/-- The whole machine. -/
structure State where
  /-- The instance whose command port the host drove last: the one a command's meaning is about. -/
  blk : Block
  /-- Every other instance bound to the same timer resource (R180). -/
  others : List Block
  /-- Whether `blk` is still there: a removed instance keeps this place until another is driven (R24). -/
  present : Bool
  /-- The timer resource all of them are bound to (R30). -/
  tr : Timer
  /-- The MODEL's own counter: how many start, stop and frequency calls have been made, that is, which draw of the environment
  comes next (R121, R151, R153). -/
  draws : Nat
  /-- What the host and the environment have still to do, first event first (R61, R70). -/
  queue : List HostEvent
  /-- The responses given, in the order of the commands (R70). -/
  replies : List Reply
deriving DecidableEq, Repr

/-- Why the machine stops. -/
inductive Fault where
  /-- Raised by SET_DUTY alone, through `State.bindWrite`: the binding is marked valid and its slot names no compare register
  that exists (R33, R52). Safe. No state that meets the invariant of R21 raises it (`Obligations.CommandsNeverStopUnderInvariant`). -/
  | bindingNamesNoRegister (slot : Strap)
deriving DecidableEq, Repr

/-- Why the model gives no meaning. -/
inductive Refusal where
  /-- An instruction without a meaning: raised by no arm of `exec`. Safe. -/
  | notModelled (mnemonic : String)
  /-- Raised by `step`: the host addresses a command port that no instance has (no rule gives this a meaning). Safe. -/
  | noSuchPort (port : Nat)
  /-- Raised by `step`: the platform builds a block on a command port that another block has (no rule gives this a meaning,
  port numbers being the model's own). Safe. -/
  | portInUse (port : Nat)
deriving DecidableEq, Repr

/-- A block right after it is built or reset: no binding, slot 0 (R40). -/
def Block.built (port : Nat) (straps : Straps) : Block := ⟨port, straps, false, 0⟩

/-- A launch (R15, R42): blocks just built, on a timer resource with any launch values. -/
def State.launch (first : Nat × Straps) (rest : List (Nat × Straps)) (tr : Timer) : State :=
  { blk := Block.built first.1 first.2
    others := rest.map fun b => Block.built b.1 b.2
    present := true
    tr := tr
    draws := 0
    queue := []
    replies := [] }

/-- The straps of the reference platform (R15, D31), with `CH = 1` as vector S1 states it. -/
def referenceStraps : Straps := ⟨1, 3, .configurationUnattainable⟩

/-- The timer resource of the reference platform (R15, R42, D31): every register zero, `SUPP = {1, 2, 3, 4}`; the bus clock
is the 1 MHz of vector S1. -/
def referenceTimer : Timer :=
  { regs := ⟨0, 0, ⟨0, 0, 0, 0, 0, 0⟩, ⟨false, false, false, false, false, false⟩, 0⟩
    busclk := 1000000
    supp := ⟨true, true, true, true, false, false⟩ }

/-- The machine right after reset: R40 for the block; R42 leaves every other value open, and the values here are the reference
platform's (DESIGN CHOICE, log entries 4 and 5). -/
def State.reset : State := State.launch (0, referenceStraps) [] referenceTimer

end Sys2Proof.Machine
end

