-- ==== Sys2Proof/Machine/Ops.lean ====
section
/-! DEFINITION. The named operations every meaning is written with: channel selection, the access primitives TRRead, TRWrite,
BindWrite and TRCall (R50 to R54), the end of a command (R12: `return Ok`, `return Ok(d)`, `raise`), block reset (R190) and
the taking of the host's next event (R61, R70). -/

namespace Sys2Proof

/-- The value of channel `k`. -/
def PerChannel.get {α : Type} (p : PerChannel α) : Channel → α
  | .ch1 => p.ch1
  | .ch2 => p.ch2
  | .ch3 => p.ch3
  | .ch4 => p.ch4
  | .ch5 => p.ch5
  | .ch6 => p.ch6

/-- The same values, but `v` for channel `k`. -/
def PerChannel.set {α : Type} (p : PerChannel α) (k : Channel) (v : α) : PerChannel α :=
  match k with
  | .ch1 => { p with ch1 := v }
  | .ch2 => { p with ch2 := v }
  | .ch3 => { p with ch3 := v }
  | .ch4 => { p with ch4 := v }
  | .ch5 => { p with ch5 := v }
  | .ch6 => { p with ch6 := v }

/-- The channel a 3-bit code names; 0 and 7 name none (R22). -/
def Channel.ofCode (c : Strap) : Option Channel :=
  if c = 1#3 then some .ch1
  else if c = 2#3 then some .ch2
  else if c = 3#3 then some .ch3
  else if c = 4#3 then some .ch4
  else if c = 5#3 then some .ch5
  else if c = 6#3 then some .ch6
  else none

/-- The channel that a code names and that this timer resource supports. -/
def Timer.channel (tr : Timer) (c : Strap) : Option Channel :=
  match Channel.ofCode c with
  | some k => if tr.supp.get k then some k else none
  | none => none

/-- The timer resource with these registers. -/
def Timer.withRegs (tr : Timer) (r : TimerRegs) : Timer := { tr with regs := r }

/-- `TR_INIT` (R101): the open function, made idempotent. Where the open function already is (its answer on the state it leaves
is the same answer) this is that function, so it ranges over every function R101 allows; where it is not, the reference
platform's answer (Ok, nothing changed) stands. -/
def Timer.init (tr : Timer) : Result × Timer :=
  let a := Config.trInitRaw tr
  if Config.trInitRaw (tr.withRegs a.2) = a then (a.1, tr.withRegs a.2) else (.ok, tr)

namespace Machine

/-- `CH in SUPP`, with the channel: `none` when the block's channel is not supported (R22, R51). -/
def State.channel (s : State) : Option Channel := s.tr.channel s.blk.straps.ch

/-! ### The end of a command (R12, R75) -/

/-- The response `(result, data)` on the command port of the block that ran the command. -/
def State.respond (s : State) (result : Result) (data : Word) : State :=
  { s with replies := s.replies ++ [⟨s.blk.port, ⟨result, data⟩⟩] }

/-- `return Ok`. -/
def State.returnOk (s : State) : State := s.respond .ok 0

/-- `return Ok(d)`. -/
def State.returnOkData (s : State) (d : Word) : State := s.respond .ok d

/-- `raise <Code>`: what takes the place of an exception (R12, R160, R170). It saves nothing, changes no mode and goes
nowhere; the response word is all it produces. -/
def State.raise (s : State) (why : Failure) : State := s.respond (.failed why) 0

/-! ### Timer-resource registers (R50, R51) -/

/-- The timer-resource registers replaced. -/
def State.withRegs (s : State) (r : TimerRegs) : State := { s with tr := s.tr.withRegs r }

/-- `TRRead(ARR)` (R50). -/
def State.readArr (s : State) : Word := s.tr.regs.arr

/-- `TRRead(BUSCLK)` (R50). -/
def State.readBusclk (s : State) : Word := s.tr.busclk

/-- `TRWrite(PSC, v)` (R51). -/
def State.writePsc (s : State) (v : Half) : State := s.withRegs { s.tr.regs with psc := v }

/-- `TRWrite(ARR, v)` (R51). -/
def State.writeArr (s : State) (v : Word) : State := s.withRegs { s.tr.regs with arr := v }

/-- `TRWrite(CCR[k], v)` (R51). -/
def State.writeCcr (s : State) (k : Channel) (v : Word) : State :=
  s.withRegs { s.tr.regs with ccr := s.tr.regs.ccr.set k v }

/-- `TR.EN[k] <- v`, the effect of a start or stop call (R151, R153). -/
def State.writeEn (s : State) (k : Channel) (v : Bool) : State :=
  s.withRegs { s.tr.regs with en := s.tr.regs.en.set k v }

/-! ### The binding (R20, R52) -/

/-- `BLK.BIND_SLOT <- CH`, `BLK.BIND_VALID <- 1` (R100). -/
def State.bind (s : State) : State := { s with blk := { s.blk with bindSlot := s.blk.straps.ch, bindValid := true } }

/-- `BLK.BIND_VALID <- 0` (R103). -/
def State.unbind (s : State) : State := { s with blk := { s.blk with bindValid := false } }

/-- `BindWrite(v)` (R52): `TR.CCR[BLK.BIND_SLOT] <- v`; `none` when the slot names no compare register that exists (R33). -/
def State.bindWrite (s : State) (v : Word) : Option State :=
  match s.tr.channel s.blk.bindSlot with
  | some k => some (s.writeCcr k v)
  | none => none

/-! ### The four calls of the timer resource (R54) -/

/-- `TRCall(Init)` (R101): its result, and the machine with the timer resource as it left it. -/
def State.callInit (s : State) : Result × State := ((s.tr.init).1, { s with tr := (s.tr.init).2 })

/-- `TRCall(setAutoFrequency, hz)` (R121): it takes the next draw. -/
def State.callAutoFreq (s : State) (hz : Word) : Result × State :=
  ((Config.trAutoFreq s.draws hz s.tr).1, { s.withRegs (Config.trAutoFreq s.draws hz s.tr).2 with draws := s.draws + 1 })

/-- One start or stop call on channel `k` that would leave the enable bit `v`: it takes the next draw;
on success `TR.EN[k]` is `v`, on failure it is unspecified, a free value (R151, R153, R154). -/
def State.callStartStop (s : State) (k : Channel) (v : Bool) : Bool × State :=
  (Config.startStopOk s.draws,
   { s.writeEn k (if Config.startStopOk s.draws then v else Config.enAfterFailure s.draws) with draws := s.draws + 1 })

/-- `TRCall(start, k)` (R151). -/
def State.callStart (s : State) (k : Channel) : Bool × State := s.callStartStop k true

/-- `TRCall(stop, k)` (R153). -/
def State.callStop (s : State) (k : Channel) : Bool × State := s.callStartStop k false

/-! ### The host's events -/

/-- The instances there are, the one in front first unless it has been removed (R24, R180). -/
def State.blocks (s : State) : List Block := if s.present then s.blk :: s.others else s.others

/-- The block with this command port. -/
def State.blockAt (s : State) (port : Nat) : Option Block := s.blocks.find? (fun b => decide (b.port = port))

/-- The block with this command port is put in front; `none` when no block has it. -/
def State.select (s : State) (port : Nat) : Option State :=
  match s.blockAt port with
  | some b => some { s with blk := b, others := s.blocks.erase b, present := true }
  | none => none

/-- Reset of the block in front: the binding is lost and nothing else changes (R40, R190, R191). -/
def State.resetBlock (s : State) : State := { s with blk := Block.built s.blk.port s.blk.straps }

/-- The environment gives the bus clock another frequency (R35). -/
def State.setBusclk (s : State) (hz : Word) : State := { s with tr := { s.tr with busclk := hz } }

/-- A block is built (R22, R40): it has no binding, and nothing else changes. -/
def State.buildBlock (s : State) (port : Nat) (straps : Straps) : State :=
  { s with others := s.others ++ [Block.built port straps] }

/-- The block in front is removed, the only one or not, and no register is written (R24). -/
def State.removeBlock (s : State) : State := { s with present := false }

/-- What the next event of the queue comes to. -/
inductive Fetched where
  /-- No event is waiting. -/
  | idle (s : State)
  /-- A command word, and the machine with the addressed block in front. -/
  | command (w : CmdWord) (s : State)
  /-- An event other than a command has had its whole effect. -/
  | done (s : State)
  /-- The event has no meaning. -/
  | refused (why : Refusal)
deriving DecidableEq, Repr

/-- Take the next event off the queue (R61, R70): the events are served one at a time, in order; with none waiting the machine
stays as it is. -/
def State.fetch (s : State) : Fetched :=
  match s.queue with
  | [] => .idle s
  | .command port w :: rest =>
    match { s with queue := rest }.select port with
    | some t => .command w t
    | none => .refused (.noSuchPort port)
  | .resetBlock port :: rest =>
    match { s with queue := rest }.select port with
    | some t => .done t.resetBlock
    | none => .refused (.noSuchPort port)
  | .busClock hz :: rest => .done ({ s with queue := rest }.setBusclk hz)
  | .buildBlock port straps :: rest =>
    match s.blockAt port with
    | some _ => .refused (.portInUse port)
    | none => .done ({ s with queue := rest }.buildBlock port straps)
  | .removeBlock port :: rest =>
    match { s with queue := rest }.select port with
    | some t => .done t.removeBlock
    | none => .refused (.noSuchPort port)

end Machine
end Sys2Proof
end

