-- ==== Sys2Proof/Machine/AutoFrequency.lean ====
section
/-! DEFINITION. SET_AUTO_FREQ (spec/42_auto_frequency.md). -/

namespace Sys2Proof.Machine

open Sys2Proof

/-- SET_AUTO_FREQ (R120, R122): the pattern is passed on undecoded, the result is surfaced unchanged. -/
def execSetAutoFreq (hz : Word) (s : State) : Host.Outcome State Fault Refusal :=
  .next ((s.callAutoFreq hz).2.respond (s.callAutoFreq hz).1 0)

end Sys2Proof.Machine
end

