-- ==== Sys2Proof/Machine/Operands.lean ====
section
/-! DEFINITION. The operand readings of R73. `U32` and `U16` are the bits themselves, cut out by the decoder; this file holds
the third, `F32`: the exact value of a binary32 pattern (R78), and the two uses the commands make of it (R111, R112). -/

namespace Sys2Proof.Machine

open Sys2Proof

/-- The value of a float operand (R78): a fraction with a positive denominator, or one of the three tokens. -/
inductive FVal where
  | nan
  | posInf
  | negInf
  | fin (num : Int) (den : Nat)
deriving DecidableEq, Repr

/-- A fraction that is not negative. -/
structure Frac where
  num : Nat
  den : Nat
deriving DecidableEq, Repr

/-- `s = b[31]`. -/
def f32Sign (b : Word) : Bool := b.getLsbD 31

/-- `e = b[30:23]`. -/
def f32Exp (b : Word) : Nat := (b.extractLsb' 23 8).toNat

/-- `f = b[22:0]`. -/
def f32Frac (b : Word) : Nat := (b.extractLsb' 0 23).toNat

/-- The magnitude of a finite pattern: `f * 2^(-149)` for `e = 0`, otherwise `(2^23 + f) * 2^(e - 150)` (R78). -/
def f32Magnitude (e f : Nat) : Frac :=
  if e = 0 then ⟨f, 2 ^ 149⟩
  else if e < 150 then ⟨2 ^ 23 + f, 2 ^ (150 - e)⟩
  else ⟨(2 ^ 23 + f) * 2 ^ (e - 150), 1⟩

/-- `fval(b)` (R78). Plus and minus zero are one value. -/
def fval (b : Word) : FVal :=
  if f32Exp b = 255 then
    if f32Frac b ≠ 0 then .nan else if f32Sign b then .negInf else .posInf
  else
    let m := f32Magnitude (f32Exp b) (f32Frac b)
    .fin (if f32Sign b then -(m.num : Int) else (m.num : Int)) m.den

/-- `d = NaN or d = -inf or d < 0`, the lower domain check of SET_DUTY (R111). -/
def FVal.belowDuty : FVal → Bool
  | .nan => true
  | .negInf => true
  | .posInf => false
  | .fin n _ => decide (n < 0)

/-- The duty cycle after the upper clamp: 100 for `+inf` and for every value above 100 (R112). It is used only on values
that pass `belowDuty`. -/
def FVal.clampDuty : FVal → Frac
  | .fin n d => if 100 * (d : Int) < n then ⟨100, 1⟩ else ⟨n.toNat, d⟩
  | .posInf => ⟨100, 1⟩
  | .nan => ⟨100, 1⟩
  | .negInf => ⟨100, 1⟩

end Sys2Proof.Machine
end

