-- ==== Sys2Proof/Machine/DutyCycle.lean ====
section
/-! DEFINITION. SET_DUTY (spec/41_duty_cycle.md). -/

namespace Sys2Proof.Machine

open Sys2Proof

/-- `min(floor(dc * P / 100), P)`, exactly (R115). -/
def compareValue (dc : Frac) (period : Nat) : Nat := min (dc.num * period / (dc.den * 100)) period

/-- SET_DUTY (R110): operand test, period test, binding test, then the write through the binding. -/
def execSetDuty (d : Word) (s : State) : Host.Outcome State Fault Refusal :=
  if (fval d).belowDuty then .next (s.raise .invalidParameter)
  else if s.readArr = 0 then .next (s.raise s.blk.straps.errPeriodZero)
  else if s.blk.bindValid = false then .next (s.raise .unsupportedChannel)
  else
    match s.bindWrite (BitVec.ofNat 32 (compareValue (fval d).clampDuty s.readArr.toNat)) with
    | some t => .next t.returnOk
    | none => .fault (.bindingNamesNoRegister s.blk.bindSlot)

end Sys2Proof.Machine
end

