-- ==== Sys2Proof/Machine/EnableDisable.lean ====
section
/-! DEFINITION. ENABLE and DISABLE (spec/45_enable_disable.md). -/

namespace Sys2Proof.Machine

open Sys2Proof

/-- The end of ENABLE and DISABLE: Ok when the primitive succeeded, HardwareOperationFailed when it did not (R154). -/
def startStopAnswer (c : Bool × State) : State :=
  if c.1 then c.2.returnOk else c.2.raise .hardwareOperationFailed

/-- ENABLE (R150, R155). -/
def execEnable (_ignored : Word) (s : State) : Host.Outcome State Fault Refusal :=
  match s.channel with
  | some k => .next (startStopAnswer (s.callStart k))
  | none => .next (s.raise .unsupportedChannel)

/-- DISABLE (R152, R155). -/
def execDisable (_ignored : Word) (s : State) : Host.Outcome State Fault Refusal :=
  match s.channel with
  | some k => .next (startStopAnswer (s.callStop k))
  | none => .next (s.raise .unsupportedChannel)

end Sys2Proof.Machine
end

