-- ==== Sys2Proof/Machine/InitAccessor.lean ====
section
/-! DEFINITION. INIT and GET_TIM (spec/40_init_and_accessor.md). -/

namespace Sys2Proof.Machine

open Sys2Proof

/-- INIT after the timer resource's own `Init()` has succeeded: resolve the binding (R100, R103). -/
def State.resolveBinding (s : State) : State :=
  match s.channel with
  | some _ => s.bind.returnOk
  | none => s.unbind.raise .unsupportedChannel

/-- INIT (R100 to R103). -/
def execInit (_ignored : Word) (s : State) : Host.Outcome State Fault Refusal :=
  .next
    (if s.callInit.1 = .ok then s.callInit.2.resolveBinding
     else s.callInit.2.raise .hardwareOperationFailed)

/-- GET_TIM (R104). -/
def execGetTim (_ignored : Word) (s : State) : Host.Outcome State Fault Refusal :=
  .next (s.returnOkData s.blk.straps.timId)

end Sys2Proof.Machine
end

