-- ==== Sys2Proof/Machine/PulseWidth.lean ====
section
/-! DEFINITION. SET_AUTO_PW, the prescaler and reload resolver (spec/43_pulse_width.md). -/

namespace Sys2Proof.Machine

open Sys2Proof

/-- What the resolver finds. -/
inductive Resolution where
  | failed (why : Failure)
  | found (psc arr : Nat)
deriving DecidableEq, Repr

/-- The candidate reload value `floor(X / psc)` (R128). -/
def candidate (x : Frac) (psc : Nat) : Nat := x.num / (x.den * psc)

/-- `X = B * us / 1_000_000`, the period in bus-clock ticks, for a pulse width that is not negative (R128). -/
def ticks (b num den : Nat) : Frac := ⟨b * num, den * 1000000⟩

/-- The least prescaler in 1..65535 whose candidate fits 16 bits, by the closed form of R134 item 1 (which R134 and R136 allow
in place of the search), and its candidate (R129, R130). -/
def resolveTicks (x : Frac) : Resolution :=
  let psc := x.num / (x.den * 65536) + 1
  if psc ≤ 65535 then .found psc (candidate x psc) else .failed .configurationUnattainable

/-- The precheck of R127, then the resolution of R129 and R130. -/
def resolve (b : Nat) (us : FVal) : Resolution :=
  if b = 0 then .failed .invalidParameter
  else
    match us with
    | .nan => .failed .invalidParameter
    | .negInf => .failed .invalidParameter
    | .posInf => .failed .configurationUnattainable
    | .fin n d =>
      if (b : Int) * n < 1000000 * (d : Int) then .failed .invalidParameter
      else resolveTicks (ticks b n.toNat d)

/-- The three writes of R132, in its order. -/
def State.programPair (s : State) (k : Channel) (psc arr : Nat) : State :=
  ((s.writePsc (BitVec.ofNat 16 (psc - 1))).writeArr (BitVec.ofNat 32 arr)).writeCcr k (BitVec.ofNat 32 (arr / 2))

/-- SET_AUTO_PW (R125): precheck, search, channel check, then the writes. -/
def execSetAutoPw (us : Word) (s : State) : Host.Outcome State Fault Refusal :=
  match resolve s.readBusclk.toNat (fval us) with
  | .failed why => .next (s.raise why)
  | .found psc arr =>
    match s.channel with
    | some k => .next (s.programPair k psc arr).returnOk
    | none => .next (s.raise .unsupportedChannel)

end Sys2Proof.Machine
end

