-- ==== Sys2Proof/Machine/RawRegisters.lean ====
section
/-! DEFINITION. SET_ARR, SET_CCR, SET_PSR (spec/44_raw_registers.md). -/

namespace Sys2Proof.Machine

open Sys2Proof

/-- SET_ARR (R140). -/
def execSetArr (v : Word) (s : State) : Host.Outcome State Fault Refusal := .next (s.writeArr v).returnOk

/-- SET_CCR (R141, R142). -/
def execSetCcr (v : Word) (s : State) : Host.Outcome State Fault Refusal :=
  match s.channel with
  | some k => .next (s.writeCcr k v).returnOk
  | none => .next (s.raise .unsupportedChannel)

/-- SET_PSR (R143): the upper half of the operand is ignored. -/
def execSetPsr (_ignored v : Half) (s : State) : Host.Outcome State Fault Refusal := .next (s.writePsc v).returnOk

end Sys2Proof.Machine
end

