-- ==== Sys2Proof/Machine/Reserved.lean ====
section
/-! DEFINITION. The reserved opcodes (spec/30_encoding.md, R76): answered with InvalidParameter, nothing changed, whatever the
operand holds. -/

namespace Sys2Proof.Machine

open Sys2Proof

/-- Opcode 0x0 (R76). -/
def execReserved0 (_ignored : Word) (s : State) : Host.Outcome State Fault Refusal := .next (s.raise .invalidParameter)

/-- Opcode 0xB (R76). -/
def execReservedB (_ignored : Word) (s : State) : Host.Outcome State Fault Refusal := .next (s.raise .invalidParameter)

/-- Opcodes 0xC to 0xF (R76). -/
def execReservedCToF (_op : BitVec 4) (_ignored : Word) (s : State) : Host.Outcome State Fault Refusal :=
  .next (s.raise .invalidParameter)

end Sys2Proof.Machine
end

