-- ==== Sys2Proof/Machine/Dispatch.lean ====
section
/-! DEFINITION. One arm for each command, each a direct call of its meaning. -/

namespace Sys2Proof.Machine
open Sys2Proof

/-- The meaning of a command for the block in front (R70: executed completely, then answered). -/
def exec (i : Instr) (s : State) : Host.Outcome State Fault Refusal :=
  match i with
  | .init a => Sys2Proof.Machine.execInit a s
  | .setDuty d => Sys2Proof.Machine.execSetDuty d s
  | .setAutoFreq hz => Sys2Proof.Machine.execSetAutoFreq hz s
  | .setAutoPw us => Sys2Proof.Machine.execSetAutoPw us s
  | .setArr v => Sys2Proof.Machine.execSetArr v s
  | .setCcr v => Sys2Proof.Machine.execSetCcr v s
  | .setPsr hi v => Sys2Proof.Machine.execSetPsr hi v s
  | .enable a => Sys2Proof.Machine.execEnable a s
  | .disable a => Sys2Proof.Machine.execDisable a s
  | .getTim a => Sys2Proof.Machine.execGetTim a s
  | .reserved0 a => Sys2Proof.Machine.execReserved0 a s
  | .reservedB a => Sys2Proof.Machine.execReservedB a s
  | .reservedCToF op a => Sys2Proof.Machine.execReservedCToF op a s

end Sys2Proof.Machine
end

