-- ==== Sys2Proof/Machine/Step.lean ====
section
/-! DEFINITION. One step: the host's next event (R61, R70). A command word is decoded and run to its end by the block it is
addressed to, and answered, before the next event is taken. -/

namespace Sys2Proof.Machine

open Sys2Proof

/-- One step of the machine. -/
def step (s : State) : Host.Outcome State Fault Refusal :=
  match s.fetch with
  | .idle t => .next t
  | .command w t => exec (decode w) t
  | .done t => .next t
  | .refused why => .refused why

/-- The state with one command word, the low 36 of the `nbits` bits of `w`, presented next on the command port of the block in
front, which is there to take it: the place of a fetch address is taken by the head of the host's list of commands (R26, R70). -/
def State.withFetchWord (s : State) (nbits w : Nat) : State :=
  { s with present := true, queue := .command s.blk.port (BitVec.ofNat 36 (w % 2 ^ nbits)) :: s.queue }

end Sys2Proof.Machine
end

