-- ==== Sys2Proof/Machine/Assembler.lean ====
section
/-! DEFINITION. The call syntax of R82, as data: one term for each line, and the command word the assembler emits for it, zero
in every ignored bit. A float operand is a decimal number or a pattern. -/

namespace Sys2Proof.Machine

open Sys2Proof

/-- The quotient of two numbers rounded to the nearest integer, ties to even. -/
def divNearestEven (num den : Nat) : Nat :=
  let q := num / den
  let r := num % den
  if den < 2 * r then q + 1
  else if 2 * r = den then q + q % 2
  else q

/-- Bits 30:0 of the binary32 pattern nearest to `num / den` (R82, G2). The spacing of patterns near that value is
`2^(t - 149)`. A value past the largest finite pattern gives infinity (log entry 12). -/
def nearestMagnitude (num den : Nat) : Nat :=
  let t := Nat.log2 (num * 2 ^ 149 / den) - 23
  min (t * 2 ^ 23 + divNearestEven (num * 2 ^ 149) (den * 2 ^ t)) 0x7F800000

/-- A float operand as it is written. -/
inductive FloatLit where
  /-- A decimal number, as its sign and the fraction of its magnitude. -/
  | decimal (negative : Bool) (num den : Nat)
  /-- A hexadecimal pattern, which stands for itself. -/
  | pattern (b : Word)
deriving DecidableEq, Repr

/-- `bits(x)`: the pattern a float operand stands for (R82). -/
def FloatLit.bits : FloatLit → Word
  | .decimal negative num den => BitVec.ofNat 32 ((if negative then 2 ^ 31 else 0) + nearestMagnitude num den)
  | .pattern b => b

/-- One line of the call syntax (R82). -/
inductive AsmLine where
  | init
  | setDuty (d : FloatLit)
  | setAutoFreq (hz : FloatLit)
  | setAutoPw (us : FloatLit)
  | setArr (v : Word)
  | setCcr (v : Word)
  | setPsr (v : Half)
  | enable
  | disable
  | getTim
deriving DecidableEq, Repr

/-- The command a line stands for. -/
def AsmLine.instr : AsmLine → Instr
  | .init => .init 0
  | .setDuty d => .setDuty d.bits
  | .setAutoFreq hz => .setAutoFreq hz.bits
  | .setAutoPw us => .setAutoPw us.bits
  | .setArr v => .setArr v
  | .setCcr v => .setCcr v
  | .setPsr v => .setPsr 0 v
  | .enable => .enable 0
  | .disable => .disable 0
  | .getTim => .getTim 0

/-- The command word the assembler emits (R82). -/
def AsmLine.word (l : AsmLine) : CmdWord := encode l.instr

end Sys2Proof.Machine
end

