-- ==== Sys2Proof/Machine/Flags.lean ====
section
/-! DEFINITION. PWMRES has no status flag (R27): the outcome of a command is its response and nothing else. This file holds
what stands where a processor has flags: the result codes (R77) and the 35-bit response word (R75), with its reader. -/

namespace Sys2Proof.Machine

open Sys2Proof

/-- `RESULT`, 0 to 4 in the taxonomy's order (R77). -/
def resultCode : Result → BitVec 3
  | .ok => 0
  | .failed .invalidParameter => 1
  | .failed .configurationUnattainable => 2
  | .failed .unsupportedChannel => 3
  | .failed .hardwareOperationFailed => 4

/-- The result a code stands for; 5, 6 and 7 are not used (R77, U12). -/
def resultOfCode (c : BitVec 3) : Option Result :=
  if c = 0#3 then some .ok
  else if c = 1#3 then some (.failed .invalidParameter)
  else if c = 2#3 then some (.failed .configurationUnattainable)
  else if c = 3#3 then some (.failed .unsupportedChannel)
  else if c = 4#3 then some (.failed .hardwareOperationFailed)
  else none

/-- The response word: `RESULT` in 34:32, `DATA` in 31:0 (R75). -/
def responseWord (r : Response) : RspWord := (resultCode r.result ++ r.data : BitVec (3 + 32))

/-- The response a word stands for; `none` for the codes a working platform never gives (U12). -/
def responseOfWord (w : RspWord) : Option Response :=
  match resultOfCode (w.extractLsb' 32 3) with
  | some r => some ⟨r, w.extractLsb' 0 32⟩
  | none => none

end Sys2Proof.Machine
end

