-- ==== Sys2Proof/Safety.lean ====
section
/-! DEFINITION. The terms claims are stated in: the invariant of R21, the tables of R37 and R166, and the formulas of R78,
R115, R128 and R129 written over the rational numbers as the spec writes them (the machine itself computes with natural
numbers). -/

namespace Sys2Proof.Machine

open Sys2Proof

/-! ### The invariant -/

/-- R21 for one block: a valid binding points to the block's own channel, which is supported. -/
abbrev Block.BindingOk (tr : Timer) (b : Block) : Prop :=
  b.bindValid = true → b.bindSlot = b.straps.ch ∧ (tr.channel b.straps.ch).isSome = true

/-- R21 for every block (the one in front too when it has been removed), and (the model's own) no two blocks answer to one port
number. -/
abbrev State.Inv (s : State) : Prop :=
  (∀ b ∈ s.blk :: s.others, b.BindingOk s.tr) ∧ (s.blocks.map (·.port)).Nodup

/-- The responses after the block in front has answered `(result, data)`. -/
def State.answered (s : State) (result : Result) (data : Word) : List Reply :=
  s.replies ++ [⟨s.blk.port, ⟨result, data⟩⟩]

/-! ### Float operands over the rationals (R78) -/

/-- `e = b[30:23]`. -/
def exponentOf (b : Word) : Nat := b.toNat / 2 ^ 23 % 256

/-- `f = b[22:0]`. -/
def fractionOf (b : Word) : Nat := b.toNat % 2 ^ 23

/-- `s = b[31]`, as the factor `(-1)^s`. -/
def signOf (b : Word) : ℚ := if 2 ^ 31 ≤ b.toNat then -1 else 1

/-- `e = 255 and f != 0`. -/
abbrev IsNaN (b : Word) : Prop := exponentOf b = 255 ∧ fractionOf b ≠ 0

/-- `e = 255 and f = 0`, sign clear. -/
abbrev IsPosInf (b : Word) : Prop := exponentOf b = 255 ∧ fractionOf b = 0 ∧ b.toNat < 2 ^ 31

/-- `e = 255 and f = 0`, sign set. -/
abbrev IsNegInf (b : Word) : Prop := exponentOf b = 255 ∧ fractionOf b = 0 ∧ 2 ^ 31 ≤ b.toNat

/-- The pattern stands for a rational number. -/
abbrev IsFinite (b : Word) : Prop := exponentOf b ≠ 255

/-- The rational a finite pattern stands for, as R78 writes it. -/
def f32Value (b : Word) : ℚ :=
  if exponentOf b = 0 then signOf b * fractionOf b * (2 : ℚ) ^ (-149 : ℤ)
  else signOf b * (2 ^ 23 + fractionOf b) * (2 : ℚ) ^ ((exponentOf b : ℤ) - 150)

/-! ### SET_DUTY -/

/-- The operands SET_DUTY does not reject (R111). -/
abbrev DutyAccepted (d : Word) : Prop := IsPosInf d ∨ (IsFinite d ∧ 0 ≤ f32Value d)

/-- `dc`, the duty cycle after the upper clamp (R112). -/
def dutyPercent (d : Word) : ℚ := if IsPosInf d then 100 else min (f32Value d) 100

/-! ### SET_AUTO_PW -/

/-- `X = B * us / 1_000_000` (R128). -/
def periodTicks (busclk us : Word) : ℚ := busclk.toNat * f32Value us / 1000000

/-- The ascending search of R125 and R129, started at `psc` with `fuel` values left. -/
def ascendingSearch (x : ℚ) : (fuel psc : Nat) → Option Nat
  | 0, _ => none
  | fuel + 1, psc => if ⌊x / psc⌋ ≤ 65535 then some psc else ascendingSearch x fuel (psc + 1)

/-- The pseudocode of R125 up to the channel check, word for word. -/
def searchResolve (busclk us : Word) : Resolution :=
  if IsNaN us ∨ IsNegInf us ∨ busclk = 0 then .failed .invalidParameter
  else if IsPosInf us then .failed .configurationUnattainable
  else if busclk.toNat * f32Value us < 1000000 then .failed .invalidParameter
  else
    match ascendingSearch (periodTicks busclk us) 65535 1 with
    | some psc => .found psc ⌊periodTicks busclk us / psc⌋.toNat
    | none => .failed .configurationUnattainable

/-- The machine after the block's slot and valid bit are set by hand, for claims that compare two bindings (R106). -/
def State.withBinding (s : State) (valid : Bool) (slot : Strap) : State :=
  { s with blk := { s.blk with bindValid := valid, bindSlot := slot } }

end Sys2Proof.Machine

namespace Sys2Proof

/-! ### The tables of R37 and R166 -/

/-- The columns of R37's table. -/
structure WriteSet where
  binding : Bool
  psc : Bool
  arr : Bool
  ownCcr : Bool
  otherCcr : Bool
  ownEn : Bool
  otherEn : Bool
  other : Bool
deriving DecidableEq, Repr

/-- R37: which command may write which state. -/
def Instr.mayWrite : Instr → WriteSet
  | .init _ => ⟨true, true, true, true, true, true, true, true⟩
  | .setDuty _ => ⟨false, false, false, true, false, false, false, false⟩
  | .setAutoFreq _ => ⟨false, true, true, true, true, true, true, true⟩
  | .setAutoPw _ => ⟨false, true, true, true, false, false, false, false⟩
  | .setArr _ => ⟨false, false, true, false, false, false, false, false⟩
  | .setCcr _ => ⟨false, false, false, true, false, false, false, false⟩
  | .setPsr _ _ => ⟨false, true, false, false, false, false, false, false⟩
  | .enable _ => ⟨false, false, false, false, false, true, false, false⟩
  | .disable _ => ⟨false, false, false, false, false, true, false, false⟩
  | .getTim _ => ⟨false, false, false, false, false, false, false, false⟩
  | .reserved0 _ => ⟨false, false, false, false, false, false, false, false⟩
  | .reservedB _ => ⟨false, false, false, false, false, false, false, false⟩
  | .reservedCToF _ _ => ⟨false, false, false, false, false, false, false, false⟩

/-- R166: the results a command can end with, given the parameter `ERR_PERIOD_ZERO`. -/
def Instr.mayEndWith (i : Instr) (errPeriodZero : Failure) : List Result :=
  match i with
  | .init _ => [.ok, .failed .unsupportedChannel, .failed .hardwareOperationFailed]
  | .setDuty _ => [.ok, .failed .invalidParameter, .failed errPeriodZero, .failed .unsupportedChannel]
  | .setAutoFreq _ => [.ok, .failed .invalidParameter, .failed .configurationUnattainable, .failed .unsupportedChannel,
      .failed .hardwareOperationFailed]
  | .setAutoPw _ => [.ok, .failed .invalidParameter, .failed .configurationUnattainable, .failed .unsupportedChannel]
  | .setArr _ => [.ok]
  | .setCcr _ => [.ok, .failed .unsupportedChannel]
  | .setPsr _ _ => [.ok]
  | .enable _ => [.ok, .failed .unsupportedChannel, .failed .hardwareOperationFailed]
  | .disable _ => [.ok, .failed .unsupportedChannel, .failed .hardwareOperationFailed]
  | .getTim _ => [.ok]
  | .reserved0 _ => [.failed .invalidParameter]
  | .reservedB _ => [.failed .invalidParameter]
  | .reservedCToF _ _ => [.failed .invalidParameter]

/-- The command calls an open routine of the timer resource, which may leave changes behind when it fails (R170). -/
def Instr.callsOpenRoutine : Instr → Bool
  | .init _ => true
  | .setAutoFreq _ => true
  | .enable _ => true
  | .disable _ => true
  | .setDuty _ => false
  | .setAutoPw _ => false
  | .setArr _ => false
  | .setCcr _ => false
  | .setPsr _ _ => false
  | .getTim _ => false
  | .reserved0 _ => false
  | .reservedB _ => false
  | .reservedCToF _ _ => false

/-- The command is SET_DUTY, the one that uses the binding (R106). -/
def Instr.usesBinding : Instr → Bool
  | .setDuty _ => true
  | .init _ => false
  | .setAutoFreq _ => false
  | .setAutoPw _ => false
  | .setArr _ => false
  | .setCcr _ => false
  | .setPsr _ _ => false
  | .enable _ => false
  | .disable _ => false
  | .getTim _ => false
  | .reserved0 _ => false
  | .reservedB _ => false
  | .reservedCToF _ _ => false

end Sys2Proof
end

