-- ==== Sys2Proof/Certificates/Slice0/Obligations.lean ====
section
/-! DEFINITION. The statements for the provers, made from the numbered rules of the spec. A statement that reads `exec i s =
.next { s with … }` says the whole next state: every field of `s` that is not named is unchanged (its frame). -/

open Sys2Proof Sys2Proof.Machine

/-! ### Encoding (R71 to R82) -/

/-- R72, R82: words written out from the spec's tables (`{op, arg}`, R71), and what each of them is; a number of more than 36
bits is no command word (R71). -/
def Obligations.WordsOfTheSpecDecode : Prop :=
  decode 0b0001_00000000000000000000000000000000#36 = .init 0 ∧
  decode 0b0010_01000010010010000000000000000000#36 = .setDuty 0x42480000 ∧
  decode 0b0011_01000100011110100000000000000000#36 = .setAutoFreq 0x447A0000 ∧
  decode 0b0100_01000010110010000000000000000000#36 = .setAutoPw 0x42C80000 ∧
  decode 0b0101_00000000000000000000001111100111#36 = .setArr 999 ∧
  decode 0b0110_00000000000000000000000011111010#36 = .setCcr 250 ∧
  decode 0b0111_00000000000000010000000001000111#36 = .setPsr 1 71 ∧
  decode 0b1000_00000000000000000000000000000000#36 = .enable 0 ∧
  decode 0b1001_00000000000000000000000000000000#36 = .disable 0 ∧
  decode 0b1010_00000000000000000000000000000000#36 = .getTim 0 ∧
  decode 0b0000_00000000000000000000000000000000#36 = .reserved0 0 ∧
  decode 0b1011_00000000000000000000000000000000#36 = .reservedB 0 ∧
  decode 0b1100_00010010001101000101011001111000#36 = .reservedCToF 12 0x12345678 ∧
  decode 0b1111_11111111111111111111111111111111#36 = .reservedCToF 15 0xFFFFFFFF ∧
  decodeNat (2 ^ 36) = .error .widerThanCommandWord

/-- R71, R72: every well-formed instruction is what its word decodes to, with every operand at every value, and every word is
the word of the well-formed instruction it decodes to: no bit of a word is dropped. -/
def Obligations.DecodeAndEncodeAreInverse : Prop :=
  (∀ i : Instr, i.wellFormed = true → decode (encode i) = i) ∧
  ∀ w : CmdWord, (decode w).wellFormed = true ∧ encode (decode w) = w

/-- spec/opcode_table.json, R72, R76: a word belongs to a row of the table exactly when it decodes to that row's command, and
every word belongs to some row (so to just one, the rows' names being different). -/
def Obligations.EachWordHasItsOneTableRow : Prop :=
  (opcodeTable.map (·.mnemonic)).Nodup ∧
  ∀ w : CmdWord, (∀ r ∈ opcodeTable, r.matches w ↔ (decode w).mnemonic = r.mnemonic) ∧ ∃ r ∈ opcodeTable, r.matches w

/-- R73, R80: the operand of INIT, ENABLE, DISABLE, GET_TIM and the reserved opcodes, and the upper half of SET_PSR's, change
nothing in what the command does. -/
def Obligations.IgnoredOperandBitsChangeNothing : Prop :=
  ∀ (v w : CmdWord) (s : State), v.op = w.op →
    (v.op ∈ [0x0#4, 0x1#4, 0x8#4, 0x9#4, 0xA#4, 0xB#4, 0xC#4, 0xD#4, 0xE#4, 0xF#4] ∨
      (v.op = 0x7#4 ∧ v.toNat % 2 ^ 16 = w.toNat % 2 ^ 16)) →
    exec (decode v) s = exec (decode w) s

/-- R75, R77: the response word gives back the response, the reader reads nothing else, and the codes 5, 6 and 7 are read as no
response (U12). -/
def Obligations.ResponseWordRoundTrip : Prop :=
  (∀ r : Response, responseOfWord (responseWord r) = some r) ∧
  (∀ (w : RspWord) (r : Response), responseOfWord w = some r → responseWord r = w) ∧
  ∀ w : RspWord, 5 * 2 ^ 32 ≤ w.toNat ↔ responseOfWord w = none

/-- R78: the value of a float operand, token or exact rational, is the one the formula of R78 gives; the fraction the machine
computes with has a positive denominator. -/
def Obligations.FloatOperandValueIsExact : Prop :=
  ∀ b : Word,
    (IsNaN b → fval b = .nan) ∧ (IsPosInf b → fval b = .posInf) ∧ (IsNegInf b → fval b = .negInf) ∧
    (IsFinite b → ∃ (n : Int) (d : Nat), fval b = .fin n d ∧ 0 < d ∧ (n : ℚ) / d = f32Value b)

/-- R82: a decimal number that is exactly the value of a finite pattern is assembled to that pattern. (For zero R82 leaves two
patterns equally near; that a negative zero gives the minus-zero pattern is the model's choice, log entry 12.) -/
def Obligations.DecimalOfFinitePatternAssemblesBack : Prop :=
  ∀ (b : Word) (num den : Nat), IsFinite b → 0 < den →
    |f32Value b| = (num : ℚ) / den →
    (FloatLit.decimal (decide (2 ^ 31 ≤ b.toNat)) num den).bits = b

/-- R82: a hexadecimal pattern stands for itself, and a decimal number below the overflow point for the pattern nearest to it: no
finite pattern is nearer, and where one of another value is as near the pattern is the even one. The model's choice (log entry
12): the pattern carries the number's own sign when it is a zero, and from the overflow point on (half a spacing past the largest
finite pattern) a decimal number stands for an infinity. -/
def Obligations.DecimalAssemblesToTheNearestPattern : Prop :=
  (∀ b : Word, (FloatLit.pattern b).bits = b) ∧
  (∀ (negative : Bool) (num den : Nat) (b c : Word), 0 < den → (num : ℚ) / den < 2 ^ 128 - 2 ^ 103 →
    (FloatLit.decimal negative num den).bits = b → IsFinite c →
    IsFinite b ∧ (2 ^ 31 ≤ b.toNat ↔ negative = true) ∧
    |f32Value b - (if negative then -1 else 1) * (num / den)| ≤ |f32Value c - (if negative then -1 else 1) * (num / den)| ∧
    (|f32Value b - (if negative then -1 else 1) * (num / den)| = |f32Value c - (if negative then -1 else 1) * (num / den)| →
      f32Value c ≠ f32Value b → b.toNat % 2 = 0)) ∧
  ∀ (negative : Bool) (num den : Nat), 0 < den → (2 : ℚ) ^ 128 - 2 ^ 103 ≤ num / den →
    (FloatLit.decimal negative num den).bits = if negative then 0xFF800000 else 0x7F800000

/-- R82: a line of the call syntax is assembled to a word that decodes to its command, zero in every ignored bit. -/
def Obligations.AssembledLineDecodesToItsCommand : Prop :=
  (∀ l : AsmLine, decode l.word = l.instr) ∧
  (AsmLine.init.word = 0x100000000#36 ∧ AsmLine.enable.word = 0x800000000#36 ∧ AsmLine.disable.word = 0x900000000#36 ∧
    AsmLine.getTim.word = 0xA00000000#36) ∧
  (∀ d : FloatLit, (AsmLine.setDuty d).word.toNat = 0x200000000 + d.bits.toNat ∧
    (AsmLine.setAutoFreq d).word.toNat = 0x300000000 + d.bits.toNat ∧
    (AsmLine.setAutoPw d).word.toNat = 0x400000000 + d.bits.toNat) ∧
  (∀ v : Word, (AsmLine.setArr v).word.toNat = 0x500000000 + v.toNat ∧
    (AsmLine.setCcr v).word.toNat = 0x600000000 + v.toNat) ∧
  ∀ v : Half, (AsmLine.setPsr v).word.toNat = 0x700000000 + v.toNat

/-! ### The step, the host's events, reset (R26, R40, R61, R70, R190) -/

/-- R70, R61: with a command word first in the queue, a step is the execution of the decoded command by the block it is
addressed to, the word taken off the queue; in particular for the word of any well-formed instruction. The model's choice (log
entry 6): the addressed block is in front already or brought to the front from the others, and a port that no block has is
refused. -/
def Obligations.StepRunsTheDecodedCommand : Prop :=
  ∀ (s : State) (port : Nat) (w : CmdWord) (rest : List HostEvent), s.queue = .command port w :: rest →
    (s.present = true → s.blk.port = port → step s = exec (decode w) { s with queue := rest } ∧
      ∀ i : Instr, i.wellFormed = true → w = encode i → step s = exec i { s with queue := rest }) ∧
    (∀ b : Block, s.blockAt port = some b →
      step s = exec (decode w) { s with queue := rest, blk := b, others := s.blocks.erase b, present := true } ∧
      ∀ i : Instr, i.wellFormed = true → w = encode i →
        step s = exec i { s with queue := rest, blk := b, others := s.blocks.erase b, present := true }) ∧
    ((∀ b ∈ s.blocks, b.port ≠ port) → step s = .refused (.noSuchPort port))

/-- R26, R70: a word placed by `withFetchWord` is the very next command the machine runs, and running it leaves the rest of the
queue as it was. (The fetch place is the model's, log entry 7; the block in front is there to take the word.) -/
def Obligations.PlacedWordRunsNext : Prop :=
  ∀ (s : State) (nbits w : Nat),
    step (s.withFetchWord nbits w) = exec (decode (BitVec.ofNat 36 (w % 2 ^ nbits))) { s with present := true } ∧
    (∀ i : Instr, decodeTableWord nbits w = some i → step (s.withFetchWord nbits w) = exec i { s with present := true }) ∧
    (s.present = true → { s with present := true } = s)

/-- R190, R191, R35: a reset of the block in front loses its binding and changes nothing else, the timer resource and its enable
bits included; a change of the bus clock changes nothing else; with no event waiting the machine stays as it is (the last is
the model's choice, log entry 8). -/
def Obligations.HostEventsHaveTheirEffect : Prop :=
  (∀ (s : State) (rest : List HostEvent), s.present = true → s.queue = .resetBlock s.blk.port :: rest →
    step s = .next { s with queue := rest, blk := { s.blk with bindValid := false, bindSlot := 0 } }) ∧
  (∀ (s : State) (hz : Word) (rest : List HostEvent), s.queue = .busClock hz :: rest →
    step s = .next { s with queue := rest, tr := { s.tr with busclk := hz } }) ∧
  ∀ s : State, s.queue = [] → step s = .next s

/-- R190, R191: a reset event loses the binding of the block it is addressed to, whichever block that is, and leaves the timer
resource, enable bits included, and every other block as they were; the responses stay as they are. -/
def Obligations.BlockResetLosesOnlyItsBinding : Prop :=
  ∀ (s : State) (port : Nat) (rest : List HostEvent) (b : Block), s.Inv → s.queue = .resetBlock port :: rest →
    s.blockAt port = some b →
    ∃ t : State, step s = .next t ∧ t.tr = s.tr ∧ t.queue = rest ∧ t.replies = s.replies ∧ t.draws = s.draws ∧
      t.blockAt port = some { b with bindValid := false, bindSlot := 0 } ∧
      ∀ p : Nat, p ≠ port → t.blockAt p = s.blockAt p

/-- R24, R40, R180: building a block on a free command port gives a block without a binding there, and removing a block, the only
one or not, leaves no block on its port; either way every other block and the timer resource stay as they were. Building on a
port in use, and removing where no block is, are refused (the model's choice, log entry 6). -/
def Obligations.BuildAndRemoveTouchNoRegister : Prop :=
  (∀ (s : State) (port : Nat) (straps : Straps) (rest : List HostEvent), s.Inv →
    s.queue = .buildBlock port straps :: rest →
    (s.blockAt port = none → ∃ t : State, step s = .next t ∧ t.tr = s.tr ∧ t.queue = rest ∧ t.replies = s.replies ∧
      t.draws = s.draws ∧ t.blockAt port = some ⟨port, straps, false, 0⟩ ∧
      ∀ p : Nat, p ≠ port → t.blockAt p = s.blockAt p) ∧
    (s.blockAt port ≠ none → step s = .refused (.portInUse port))) ∧
  ∀ (s : State) (port : Nat) (rest : List HostEvent), s.Inv → s.queue = .removeBlock port :: rest →
    (s.blockAt port ≠ none → ∃ t : State, step s = .next t ∧ t.tr = s.tr ∧ t.queue = rest ∧
      t.replies = s.replies ∧ t.draws = s.draws ∧ t.blockAt port = none ∧
      ∀ p : Nat, p ≠ port → t.blockAt p = s.blockAt p) ∧
    (s.blockAt port = none → step s = .refused (.noSuchPort port))

/-- R40, R42, R190: after a launch no block has a binding and every slot is 0, whatever the launch values of the timer resource,
which the launch leaves as they are. -/
def Obligations.LaunchLeavesEveryBlockUnbound : Prop :=
  ∀ (first : Nat × Straps) (rest : List (Nat × Straps)) (tr : Timer),
    (State.launch first rest tr).tr = tr ∧
    ∀ b ∈ (State.launch first rest tr).blocks, b.bindValid = false ∧ b.bindSlot = 0

/-! ### INIT and GET_TIM (R100 to R106) -/

/-- R100, R102, R103: INIT asks the timer resource to initialise itself; a failure of that is HardwareOperationFailed with the
block unchanged; otherwise an unsupported channel is UnsupportedChannel with no valid binding; otherwise the binding is the
block's channel. `Timer.init` is `TR_INIT`. Nothing else changes. -/
def Obligations.InitResolvesTheBinding : Prop :=
  ∀ (a : Word) (s : State),
    exec (.init a) s = .next (
      if s.tr.init.1 ≠ .ok then
        { s with tr := s.tr.init.2, replies := s.answered (.failed .hardwareOperationFailed) 0 }
      else if s.channel = none then
        { s with tr := s.tr.init.2, blk := { s.blk with bindValid := false },
                 replies := s.answered (.failed .unsupportedChannel) 0 }
      else
        { s with tr := s.tr.init.2, blk := { s.blk with bindValid := true, bindSlot := s.blk.straps.ch },
                 replies := s.answered .ok 0 })

/-- R101: `TR_INIT` changes neither the bus clock nor the supported set, and applied to the state it produced it returns the same
result and the same state. And it is the open function `Config.trInitRaw` itself, except where that function is not idempotent
in this way (there it answers Ok and changes nothing: log entry 2). -/
def Obligations.TimerInitIsIdempotent : Prop :=
  ∀ tr : Timer,
    tr.init.2.busclk = tr.busclk ∧ tr.init.2.supp = tr.supp ∧ tr.init.2.init = tr.init ∧
    (tr.init = ((Config.trInitRaw tr).1, tr.withRegs (Config.trInitRaw tr).2) ∨
      (tr.init = (.ok, tr) ∧ Config.trInitRaw (tr.withRegs (Config.trInitRaw tr).2) ≠ Config.trInitRaw tr))

/-- R105: INIT issued twice gives the same response twice, and the second changes nothing but the list of responses. -/
def Obligations.InitTwiceIsInitOnce : Prop :=
  ∀ (a b : Word) (s : State), ∃ (t : State) (r : Result),
    exec (.init a) s = .next t ∧ t.replies = s.answered r 0 ∧
    exec (.init b) t = .next { t with replies := t.answered r 0 }

/-- R104: GET_TIM answers `(Ok, TIM_ID)`, for a bound and an unbound block and for every channel, and changes nothing; its opcode
is 0xA and its operand is ignored. -/
def Obligations.GetTimAnswersTheHandle : Prop :=
  (∀ w : CmdWord, w.op = 0xA#4 → decode w = .getTim w.arg) ∧
  ∀ (a : Word) (s : State), exec (.getTim a) s = .next { s with replies := s.answered .ok s.blk.straps.timId }

/-! ### SET_DUTY (R110 to R117) -/

/-- R110, R115: on an accepted operand, with a period and a binding, SET_DUTY writes `floor(dc * P / 100)`, exactly, to the
compare register of the bound slot, answers Ok, and changes nothing else (R116). -/
def Obligations.SetDutyWritesTheExactFloor : Prop :=
  ∀ (d : Word) (s : State) (k : Channel), DutyAccepted d → s.tr.regs.arr ≠ 0 → s.blk.bindValid = true →
    s.tr.channel s.blk.bindSlot = some k →
    ∃ c : Word, (c.toNat : ℤ) = ⌊dutyPercent d * s.tr.regs.arr.toNat / 100⌋ ∧
      exec (.setDuty d) s = .next
        { s with tr := { s.tr with regs := { s.tr.regs with ccr := s.tr.regs.ccr.set k c } },
                 replies := s.answered .ok 0 }

/-- R111: an operand below 0, `-inf` or NaN is InvalidParameter and nothing is written, whatever the period and the binding; minus
zero is a duty cycle of 0. -/
def Obligations.SetDutyRejectsBelowZero : Prop :=
  (∀ (d : Word) (s : State), IsNaN d ∨ IsNegInf d ∨ (IsFinite d ∧ f32Value d < 0) →
    exec (.setDuty d) s = .next { s with replies := s.answered (.failed .invalidParameter) 0 }) ∧
  ∀ s : State, exec (.setDuty 0x80000000) s = exec (.setDuty 0) s

/-- R112: every finite value above 100, and `+inf`, behaves as 100, and 100 on a bound block with a period writes the period. -/
def Obligations.SetDutyAboveHundredActsAsHundred : Prop :=
  (∀ (d : Word) (s : State), IsPosInf d ∨ (IsFinite d ∧ 100 < f32Value d) →
    exec (.setDuty d) s = exec (.setDuty 0x42C80000) s) ∧
  ∀ (s : State) (k : Channel), s.tr.regs.arr ≠ 0 → s.blk.bindValid = true → s.tr.channel s.blk.bindSlot = some k →
    exec (.setDuty 0x42C80000) s = .next
      { s with tr := { s.tr with regs := { s.tr.regs with ccr := s.tr.regs.ccr.set k s.tr.regs.arr } },
               replies := s.answered .ok 0 }

/-- R113, R168: with a reload value of 0 an operand that R111 does not reject ends in `ERR_PERIOD_ZERO`, bound or not, and every
operand fails; nothing is written. The parameter's default is ConfigurationUnattainable. -/
def Obligations.SetDutyWithoutPeriodFails : Prop :=
  (∀ (d : Word) (s : State), DutyAccepted d → s.tr.regs.arr = 0 →
    exec (.setDuty d) s = .next { s with replies := s.answered (.failed s.blk.straps.errPeriodZero) 0 }) ∧
  (∀ (d : Word) (s : State), s.tr.regs.arr = 0 →
    ∃ why : Failure, exec (.setDuty d) s = .next { s with replies := s.answered (.failed why) 0 }) ∧
  referenceStraps.errPeriodZero = .configurationUnattainable

/-- R114, R168: with no valid binding, and no earlier failure, SET_DUTY answers UnsupportedChannel and writes nothing. -/
def Obligations.SetDutyWithoutBindingFails : Prop :=
  ∀ (d : Word) (s : State), DutyAccepted d → s.tr.regs.arr ≠ 0 → s.blk.bindValid = false →
    exec (.setDuty d) s = .next { s with replies := s.answered (.failed .unsupportedChannel) 0 }

/-- R117 items 1 and 2: the compare value never exceeds the period, is the period exactly for a duty cycle of 100 or more, and is
0 exactly when `dc * P < 100`. -/
def Obligations.SetDutyCompareValueBounds : Prop :=
  ∀ (d : Word) (s : State) (k : Channel), DutyAccepted d → s.tr.regs.arr ≠ 0 → s.blk.bindValid = true →
    s.tr.channel s.blk.bindSlot = some k →
    ∃ t : State, exec (.setDuty d) s = .next t ∧
      (t.tr.regs.ccr.get k).toNat ≤ s.tr.regs.arr.toNat ∧
      (t.tr.regs.ccr.get k = s.tr.regs.arr ↔ IsPosInf d ∨ 100 ≤ f32Value d) ∧
      (t.tr.regs.ccr.get k = 0 ↔ dutyPercent d * s.tr.regs.arr.toNat < 100)

/-- R117 item 3: for one period the compare value does not decrease when the duty cycle grows. -/
def Obligations.SetDutyIsMonotone : Prop :=
  ∀ (d e : Word) (s : State) (k : Channel), DutyAccepted d → DutyAccepted e → dutyPercent d ≤ dutyPercent e →
    s.tr.regs.arr ≠ 0 → s.blk.bindValid = true → s.tr.channel s.blk.bindSlot = some k →
    ∃ t u : State, exec (.setDuty d) s = .next t ∧ exec (.setDuty e) s = .next u ∧
      (t.tr.regs.ccr.get k).toNat ≤ (u.tr.regs.ccr.get k).toNat

/-- R117 item 4: for an integer percentage `n` up to 100 and a period of `100 * m`, the compare value is `n * m`. -/
def Obligations.SetDutyOfIntegerPercent : Prop :=
  ∀ (d : Word) (n m : Nat) (s : State) (k : Channel), IsFinite d → f32Value d = n → n ≤ 100 → 0 < m →
    s.tr.regs.arr.toNat = 100 * m → s.blk.bindValid = true → s.tr.channel s.blk.bindSlot = some k →
    ∃ t : State, exec (.setDuty d) s = .next t ∧ (t.tr.regs.ccr.get k).toNat = n * m

/-! ### SET_AUTO_FREQ (R120 to R122) -/

/-- R120, R121, R122: SET_AUTO_FREQ passes the pattern on, leaves the timer resource's registers as its routine leaves them,
answers the routine's result unchanged, and changes nothing else, for every block and every channel. -/
def Obligations.SetAutoFreqSurfacesTheResult : Prop :=
  (∀ w : CmdWord, w.op = 0x3#4 → decode w = .setAutoFreq w.arg) ∧
  ∀ (hz : Word) (s : State),
    exec (.setAutoFreq hz) s = .next
      { s with tr := { s.tr with regs := (Config.trAutoFreq s.draws hz s.tr).2 }, draws := s.draws + 1,
               replies := s.answered (Config.trAutoFreq s.draws hz s.tr).1 0 }

/-! ### SET_AUTO_PW (R125 to R137) -/

/-- R125 to R132, R136: for every operand and every bus clock, SET_AUTO_PW does what the pseudocode of R125, with its ascending
search over the prescalers 1 to 65535 in exact rational arithmetic, says. -/
def Obligations.SetAutoPwIsTheAscendingSearch : Prop :=
  ∀ (us : Word) (s : State),
    exec (.setAutoPw us) s =
      match searchResolve s.tr.busclk us with
      | .failed why => .next { s with replies := s.answered (.failed why) 0 }
      | .found psc arr =>
        match s.channel with
        | none => .next { s with replies := s.answered (.failed .unsupportedChannel) 0 }
        | some k => .next
            { s with tr := { s.tr with regs := { s.tr.regs with
                               psc := BitVec.ofNat 16 (psc - 1), arr := BitVec.ofNat 32 arr,
                               ccr := s.tr.regs.ccr.set k (BitVec.ofNat 32 (arr / 2)) } },
                     replies := s.answered .ok 0 }

/-- R129, R132, R134 items 1 and 4: for `1 <= X < 65535 * 65536` and a supported channel SET_AUTO_PW programs the least prescaler
whose reload value fits 16 bits, `psc - 1`, `floor(X / psc)` and half of that, answers Ok, and changes nothing else. -/
def Obligations.SetAutoPwProgramsTheLeastPrescaler : Prop :=
  ∀ (us : Word) (s : State) (k : Channel), IsFinite us → 1 ≤ periodTicks s.tr.busclk us →
    periodTicks s.tr.busclk us < 65535 * 65536 → s.channel = some k →
    ∃ psc arr : Nat, 1 ≤ psc ∧ psc ≤ 65535 ∧ (arr : ℤ) = ⌊periodTicks s.tr.busclk us / psc⌋ ∧ arr ≤ 65535 ∧
      (∀ q : Nat, 1 ≤ q → q < psc → 65536 ≤ ⌊periodTicks s.tr.busclk us / q⌋) ∧
      (psc : ℤ) = ⌊periodTicks s.tr.busclk us / 65536⌋ + 1 ∧
      exec (.setAutoPw us) s = .next
        { s with tr := { s.tr with regs := { s.tr.regs with
                           psc := BitVec.ofNat 16 (psc - 1), arr := BitVec.ofNat 32 arr,
                           ccr := s.tr.regs.ccr.set k (BitVec.ofNat 32 (arr / 2)) } },
                 replies := s.answered .ok 0 }

/-- R127: NaN, `-inf`, a bus clock of 0, and a pulse width below one bus-clock period (`B * us < 1_000_000`, every value not
above 0 among them) are InvalidParameter and nothing is written. -/
def Obligations.SetAutoPwBelowResolutionIsInvalid : Prop :=
  ∀ (us : Word) (s : State),
    IsNaN us ∨ IsNegInf us ∨ s.tr.busclk = 0 ∨ (IsFinite us ∧ s.tr.busclk.toNat * f32Value us < 1000000) →
    exec (.setAutoPw us) s = .next { s with replies := s.answered (.failed .invalidParameter) 0 }

/-- R130: with a running bus clock, `+inf` and every pulse width with `X >= 4_294_901_760` are ConfigurationUnattainable, and no
register is written. -/
def Obligations.SetAutoPwTooLongIsUnattainable : Prop :=
  ∀ (us : Word) (s : State), s.tr.busclk ≠ 0 →
    IsPosInf us ∨ (IsFinite us ∧ 4294901760 ≤ periodTicks s.tr.busclk us) →
    exec (.setAutoPw us) s = .next { s with replies := s.answered (.failed .configurationUnattainable) 0 }

/-- R131: with an operand that resolves and a channel outside `SUPP`, SET_AUTO_PW answers UnsupportedChannel and writes nothing. -/
def Obligations.SetAutoPwUnsupportedChannelFails : Prop :=
  ∀ (us : Word) (s : State), IsFinite us → 1 ≤ periodTicks s.tr.busclk us →
    periodTicks s.tr.busclk us < 4294901760 → s.channel = none →
    exec (.setAutoPw us) s = .next { s with replies := s.answered (.failed .unsupportedChannel) 0 }

/-- R135: every failure of SET_AUTO_PW leaves every register and the block exactly as before the command. -/
def Obligations.SetAutoPwFailureWritesNothing : Prop :=
  ∀ (us : Word) (s : State), ∃ (t : State) (r : Result), exec (.setAutoPw us) s = .next t ∧ t.replies = s.answered r 0 ∧
    (r ≠ .ok → t = { s with replies := s.answered r 0 })

/-- R132, R134 items 3 and 7: when SET_AUTO_PW answers Ok, the prescaler register is in 0..65534, the reload value in 1..65535 and
at least 32768 when the prescaler register is not 0, the compare value half the reload value, and the realised count
`psc * arr` is at most `X` and more than `X - psc`. -/
def Obligations.SetAutoPwWritesWithinItsRanges : Prop :=
  ∀ (us : Word) (s t : State) (k : Channel), exec (.setAutoPw us) s = .next t → t.replies = s.answered .ok 0 →
    s.channel = some k →
    t.tr.regs.psc.toNat ≤ 65534 ∧ 1 ≤ t.tr.regs.arr.toNat ∧ t.tr.regs.arr.toNat ≤ 65535 ∧
    (t.tr.regs.psc ≠ 0 → 32768 ≤ t.tr.regs.arr.toNat) ∧
    (t.tr.regs.ccr.get k).toNat = t.tr.regs.arr.toNat / 2 ∧
    ((t.tr.regs.psc.toNat + 1) * t.tr.regs.arr.toNat : ℚ) ≤ periodTicks s.tr.busclk us ∧
    periodTicks s.tr.busclk us - (t.tr.regs.psc.toNat + 1) < (t.tr.regs.psc.toNat + 1) * t.tr.regs.arr.toNat

/-- R133, R117 item 5: after a SET_AUTO_PW that answered Ok on a block bound to its own channel, `SET_DUTY 50` answers Ok and
leaves the timer resource as it is. -/
def Obligations.HalfDutyAfterAutoPwChangesNothing : Prop :=
  ∀ (us : Word) (s t : State), exec (.setAutoPw us) s = .next t → t.replies = s.answered .ok 0 →
    s.blk.bindValid = true → s.blk.bindSlot = s.blk.straps.ch →
    exec (.setDuty 0x42480000) t = .next { t with replies := t.answered .ok 0 }

/-- R134 items 5 and 6: pulse width and bus clock matter only through `X`, and the prescaler does not decrease when `X` grows. -/
def Obligations.SetAutoPwDependsOnTheProductOnly : Prop :=
  ∀ (us vs : Word) (s : State) (c : Word) (k : Channel), IsFinite us → IsFinite vs →
    1 ≤ periodTicks s.tr.busclk us → periodTicks s.tr.busclk us ≤ periodTicks c vs → periodTicks c vs < 4294901760 →
    s.channel = some k →
    ∃ t u : State, exec (.setAutoPw us) s = .next t ∧
      exec (.setAutoPw vs) { s with tr := { s.tr with busclk := c } } = .next u ∧
      t.tr.regs.psc.toNat ≤ u.tr.regs.psc.toNat ∧
      (periodTicks s.tr.busclk us = periodTicks c vs → t.tr.regs = u.tr.regs ∧ t.replies = u.replies)

/-! ### SET_ARR, SET_CCR, SET_PSR (R140 to R145) -/

/-- R140: SET_ARR stores all 32 bits of its operand in the reload register, answers Ok, and changes nothing else, for every block;
after `SET_ARR 0` every SET_DUTY fails. Its opcode is 0x5. -/
def Obligations.SetArrStoresTheReloadValue : Prop :=
  (∀ w : CmdWord, w.op = 0x5#4 → decode w = .setArr w.arg) ∧
  (∀ (v : Word) (s : State),
    exec (.setArr v) s = .next
      { s with tr := { s.tr with regs := { s.tr.regs with arr := v } }, replies := s.answered .ok 0 }) ∧
  ∀ (s t : State) (d : Word), exec (.setArr 0) s = .next t →
    ∃ why : Failure, exec (.setDuty d) t = .next { t with replies := t.answered (.failed why) 0 }

/-- R141, R142: SET_CCR stores its operand in the compare register of the block's channel, whatever the reload value and the
binding, and answers Ok; for an unsupported channel it answers UnsupportedChannel and changes nothing. Its opcode is 0x6. -/
def Obligations.SetCcrStoresTheOwnCompareValue : Prop :=
  (∀ w : CmdWord, w.op = 0x6#4 → decode w = .setCcr w.arg) ∧
  (∀ (v : Word) (s : State) (k : Channel), s.channel = some k →
    exec (.setCcr v) s = .next
      { s with tr := { s.tr with regs := { s.tr.regs with ccr := s.tr.regs.ccr.set k v } },
               replies := s.answered .ok 0 }) ∧
  ∀ (v : Word) (s : State), s.channel = none →
    exec (.setCcr v) s = .next { s with replies := s.answered (.failed .unsupportedChannel) 0 }

/-- R143: SET_PSR stores the low 16 bits of its operand in the prescaler register, ignores the upper 16, answers Ok, and changes
nothing else, for every block. Its opcode is 0x7. -/
def Obligations.SetPsrStoresTheLowHalf : Prop :=
  (∀ w : CmdWord, w.op = 0x7#4 → ∃ hi v : Half, decode w = .setPsr hi v ∧ v.toNat = w.toNat % 2 ^ 16) ∧
  ∀ (hi v : Half) (s : State),
    exec (.setPsr hi v) s = .next
      { s with tr := { s.tr with regs := { s.tr.regs with psc := v } }, replies := s.answered .ok 0 }

/-- R144: SET_ARR and SET_PSR always answer `(Ok, 0)`, SET_CCR does so unless R142 applies; no raw command touches the binding or
an enable bit, and none reads a register: the same command on the same block with other registers gives the same answer and
the same written value. -/
def Obligations.RawCommandsAnswerAndTouchNoMore : Prop :=
  ∀ (v : Word) (hi h : Half) (s : State) (g : TimerRegs), ∃ t u w t' u' w' : State,
    exec (.setArr v) s = .next t ∧ exec (.setPsr hi h) s = .next u ∧ exec (.setCcr v) s = .next w ∧
    exec (.setArr v) { s with tr := { s.tr with regs := g } } = .next t' ∧
    exec (.setPsr hi h) { s with tr := { s.tr with regs := g } } = .next u' ∧
    exec (.setCcr v) { s with tr := { s.tr with regs := g } } = .next w' ∧
    t.replies = s.answered .ok 0 ∧ u.replies = s.answered .ok 0 ∧
    w.replies = s.answered (if s.channel = none then .failed .unsupportedChannel else .ok) 0 ∧
    t'.replies = t.replies ∧ u'.replies = u.replies ∧ w'.replies = w.replies ∧
    t.tr.regs.arr = v ∧ t'.tr.regs.arr = v ∧ u.tr.regs.psc = h ∧ u'.tr.regs.psc = h ∧
    (∀ k, s.channel = some k → w.tr.regs.ccr.get k = v ∧ w'.tr.regs.ccr.get k = v) ∧
    t.blk = s.blk ∧ u.blk = s.blk ∧ w.blk = s.blk ∧
    t.tr.regs.en = s.tr.regs.en ∧ u.tr.regs.en = s.tr.regs.en ∧ w.tr.regs.en = s.tr.regs.en

/-! ### ENABLE and DISABLE (R150 to R156) -/

/-- R150, R151, R154: ENABLE on a supported channel makes one start call; when it succeeds the enable bit is 1 and the answer Ok,
when it fails the bit is whatever the environment leaves and the answer HardwareOperationFailed; nothing else changes. -/
def Obligations.EnableStartsTheChannel : Prop :=
  ∀ (a : Word) (s : State) (k : Channel), s.channel = some k →
    exec (.enable a) s = .next
      { s with
        tr := { s.tr with regs := { s.tr.regs with
                  en := s.tr.regs.en.set k (if Config.startStopOk s.draws then true else Config.enAfterFailure s.draws) } }
        draws := s.draws + 1
        replies := s.answered (if Config.startStopOk s.draws then .ok else .failed .hardwareOperationFailed) 0 }

/-- R152, R153, R154: DISABLE on a supported channel makes one stop call; when it succeeds the enable bit is 0 and the answer Ok,
when it fails the bit is whatever the environment leaves and the answer HardwareOperationFailed; nothing else changes. -/
def Obligations.DisableStopsTheChannel : Prop :=
  ∀ (a : Word) (s : State) (k : Channel), s.channel = some k →
    exec (.disable a) s = .next
      { s with
        tr := { s.tr with regs := { s.tr.regs with
                  en := s.tr.regs.en.set k (if Config.startStopOk s.draws then false else Config.enAfterFailure s.draws) } }
        draws := s.draws + 1
        replies := s.answered (if Config.startStopOk s.draws then .ok else .failed .hardwareOperationFailed) 0 }

/-- R155: for a channel outside `SUPP`, ENABLE and DISABLE answer UnsupportedChannel, make no call (no draw is taken) and change
no state; and neither uses the binding: with any other binding the answer and the timer resource come out the same. -/
def Obligations.EnableDisableUnsupportedChannelFails : Prop :=
  (∀ (a : Word) (s : State), s.channel = none →
    exec (.enable a) s = .next { s with replies := s.answered (.failed .unsupportedChannel) 0 } ∧
    exec (.disable a) s = .next { s with replies := s.answered (.failed .unsupportedChannel) 0 }) ∧
  ∀ (a : Word) (s : State) (valid : Bool) (slot : Strap), ∃ t u : State,
    exec (.enable a) s = .next t ∧ exec (.disable a) s = .next u ∧
    exec (.enable a) (s.withBinding valid slot) = .next (t.withBinding valid slot) ∧
    exec (.disable a) (s.withBinding valid slot) = .next (u.withBinding valid slot)

/-- R156: the second of two ENABLEs (or DISABLEs) makes its own call and takes its own draw; when both calls succeed it leaves
the timer resource as the first left it and both answer Ok; in every case the enable bit is what the second call makes of it. -/
def Obligations.EnableTwiceIsEnableOnce : Prop :=
  ∀ (a b : Word) (s : State) (k : Channel), s.channel = some k →
    (∃ t u : State, exec (.enable a) s = .next t ∧ exec (.enable b) t = .next u ∧
      t.replies = s.answered (if Config.startStopOk s.draws then .ok else .failed .hardwareOperationFailed) 0 ∧
      u = { t with
        tr := if Config.startStopOk s.draws = true ∧ Config.startStopOk (s.draws + 1) = true then t.tr
              else { s.tr with regs := { s.tr.regs with
                en := s.tr.regs.en.set k
                  (if Config.startStopOk (s.draws + 1) then true else Config.enAfterFailure (s.draws + 1)) } }
        draws := s.draws + 2
        replies := t.answered (if Config.startStopOk (s.draws + 1) then .ok else .failed .hardwareOperationFailed) 0 }) ∧
    ∃ t u : State, exec (.disable a) s = .next t ∧ exec (.disable b) t = .next u ∧
      t.replies = s.answered (if Config.startStopOk s.draws then .ok else .failed .hardwareOperationFailed) 0 ∧
      u = { t with
        tr := if Config.startStopOk s.draws = true ∧ Config.startStopOk (s.draws + 1) = true then t.tr
              else { s.tr with regs := { s.tr.regs with
                en := s.tr.regs.en.set k
                  (if Config.startStopOk (s.draws + 1) then false else Config.enAfterFailure (s.draws + 1)) } }
        draws := s.draws + 2
        replies := t.answered (if Config.startStopOk (s.draws + 1) then .ok else .failed .hardwareOperationFailed) 0 }

/-! ### The reserved opcodes (R76) -/

/-- R76: a command word with opcode 0x0 or 0xB to 0xF is answered with InvalidParameter and 0, and changes no state, whatever its
operand holds; and no other opcode decodes to a reserved command. -/
def Obligations.ReservedOpcodesAnswerInvalid : Prop :=
  (∀ (w : CmdWord) (s : State), w.op = 0x0#4 ∨ 0xB ≤ w.op.toNat →
    exec (decode w) s = .next { s with replies := s.answered (.failed .invalidParameter) 0 }) ∧
  (∀ (a : Word) (op : BitVec 4) (s : State),
    exec (.reserved0 a) s = .next { s with replies := s.answered (.failed .invalidParameter) 0 } ∧
    exec (.reservedB a) s = .next { s with replies := s.answered (.failed .invalidParameter) 0 } ∧
    exec (.reservedCToF op a) s = .next { s with replies := s.answered (.failed .invalidParameter) 0 }) ∧
  ∀ w : CmdWord, (∃ a, decode w = .reserved0 a) ∨ (∃ a, decode w = .reservedB a) ∨ (∃ o a, decode w = .reservedCToF o a) →
    w.op = 0x0#4 ∨ 0xB ≤ w.op.toNat

/-! ### Rules of the whole machine -/

/-- R200, R70: in a state that meets the invariant of R21 every command ends in a next state: no fault and no refusal. -/
def Obligations.CommandsNeverStopUnderInvariant : Prop :=
  ∀ (i : Instr) (s : State), s.Inv → ∃ t : State, exec i s = .next t

/-- R52, R33: the one stop of the machine's commands (that it is a fault is the model's choice, log entry 11: R52 does not define
`BindWrite` there, and R21 rules such states out). Whatever the state, a command either ends in a next state, or is SET_DUTY on
a binding marked valid whose slot names no compare register that exists. -/
def Obligations.OnlyADanglingBindingStops : Prop :=
  ∀ (i : Instr) (s : State), (∃ t : State, exec i s = .next t) ∨
    ((∃ d, i = .setDuty d) ∧ s.blk.bindValid = true ∧ s.tr.channel s.blk.bindSlot = none ∧
      exec i s = .fault (.bindingNamesNoRegister s.blk.bindSlot))

/-- R70, R75, R166: every command gives exactly one response, on the port of the block that ran it, with a result that R166
allows it, and with `DATA` 0 unless it is GET_TIM. -/
def Obligations.EveryCommandGivesOneAllowedResponse : Prop :=
  ∀ (i : Instr) (s t : State), exec i s = .next t →
    ∃ (r : Result) (d : Word), t.replies = s.answered r d ∧ r ∈ i.mayEndWith s.blk.straps.errPeriodZero ∧
      ((∀ a, i ≠ .getTim a) → d = 0) ∧ (r ≠ .ok → d = 0)

/-- R37, R33: a command writes only the state that R37's table gives it; the straps, the bus clock, the supported set, the other
blocks and the host's queue are written by none. -/
def Obligations.CommandsWriteOnlyTheirState : Prop :=
  ∀ (i : Instr) (s t : State), s.blk.BindingOk s.tr → exec i s = .next t →
    t.others = s.others ∧ t.present = s.present ∧ t.queue = s.queue ∧ t.tr.busclk = s.tr.busclk ∧ t.tr.supp = s.tr.supp ∧
    t.blk.straps = s.blk.straps ∧ t.blk.port = s.blk.port ∧
    (i.mayWrite.binding = false → t.blk = s.blk) ∧
    (i.mayWrite.psc = false → t.tr.regs.psc = s.tr.regs.psc) ∧
    (i.mayWrite.arr = false → t.tr.regs.arr = s.tr.regs.arr) ∧
    (i.mayWrite.other = false → t.tr.regs.other = s.tr.regs.other) ∧
    ∀ k : Channel,
      (i.mayWrite.ownCcr = false → Channel.ofCode s.blk.straps.ch = some k →
        t.tr.regs.ccr.get k = s.tr.regs.ccr.get k) ∧
      (i.mayWrite.otherCcr = false → Channel.ofCode s.blk.straps.ch ≠ some k →
        t.tr.regs.ccr.get k = s.tr.regs.ccr.get k) ∧
      (i.mayWrite.ownEn = false → Channel.ofCode s.blk.straps.ch = some k →
        t.tr.regs.en.get k = s.tr.regs.en.get k) ∧
      (i.mayWrite.otherEn = false → Channel.ofCode s.blk.straps.ch ≠ some k →
        t.tr.regs.en.get k = s.tr.regs.en.get k)

/-- R170, R12: a command that fails leaves all state as it was, apart from its response, with the three exceptions inside the
timer resource: what `TR_INIT` did; what `TR_AUTOFREQ` did; and the channel's enable bit after a start or stop call. (The last
two clauses hold whatever the open routine answers, failures among it; the counter of draws is the model's own.) -/
def Obligations.FailuresLeaveNoTrace : Prop :=
  (∀ (i : Instr) (s t : State) (why : Failure) (d : Word), s.blk.BindingOk s.tr → exec i s = .next t →
    t.replies = s.answered (.failed why) d →
    (i.callsOpenRoutine = false → t = { s with replies := t.replies }) ∧
    (∀ a, i = .init a → t = { s with tr := s.tr.init.2, replies := t.replies }) ∧
    (∀ a, i = .enable a ∨ i = .disable a → s.channel = none → t = { s with replies := t.replies })) ∧
  (∀ (hz : Word) (s : State), ∃ (g : TimerRegs) (r : Result),
    exec (.setAutoFreq hz) s =
      .next { s with tr := { s.tr with regs := g }, draws := s.draws + 1, replies := s.answered r 0 }) ∧
  ∀ (a : Word) (s : State) (k : Channel) (i : Instr), i = .enable a ∨ i = .disable a → s.channel = some k →
    ∃ (v : Bool) (r : Result), exec i s = .next
      { s with tr := { s.tr with regs := { s.tr.regs with en := s.tr.regs.en.set k v } },
               draws := s.draws + 1, replies := s.answered r 0 }

/-- R106: only SET_DUTY uses the binding. Every other command, INIT included, gives the same response and leaves the same timer
resource whatever the block's valid bit and slot are. -/
def Obligations.OnlySetDutyUsesTheBinding : Prop :=
  ∀ (i : Instr) (s : State) (valid : Bool) (slot : Strap), i.usesBinding = false →
    ∃ t u : State, exec i s = .next t ∧ exec i (s.withBinding valid slot) = .next u ∧
      u.tr = t.tr ∧ u.replies = t.replies ∧ u.draws = t.draws ∧ u.others = t.others ∧ u.present = t.present

/-- R21, R40: at every launch, whatever its parameters, provided the port numbers differ, the invariant holds; at
`State.reset` it does. -/
def Obligations.InvariantHoldsAtLaunch : Prop :=
  State.reset.Inv ∧
  ∀ (first : Nat × Straps) (rest : List (Nat × Straps)) (tr : Timer), ((first :: rest).map (·.1)).Nodup →
    (State.launch first rest tr).Inv

/-- R21: every step, a command of any block or any other event of the host, keeps the invariant: every valid binding of every
block points to that block's own channel, which is supported. -/
def Obligations.StepKeepsTheInvariant : Prop :=
  ∀ s t : State, s.Inv → step s = .next t → t.Inv

/-- R22, R41, R180: no step changes a strap of a block or the supported set, and an event on the port of one block changes no
other block. -/
def Obligations.StepKeepsStrapsAndOtherBlocks : Prop :=
  ∀ s t : State, s.Inv → step s = .next t →
    t.tr.supp = s.tr.supp ∧
    (∀ (port : Nat) (b c : Block), s.blockAt port = some b → t.blockAt port = some c → c.straps = b.straps) ∧
    ∀ (p port : Nat) (rest : List HostEvent), p ≠ port →
      ((∃ w, s.queue = .command port w :: rest) ∨ s.queue = .resetBlock port :: rest ∨
        (∃ g, s.queue = .buildBlock port g :: rest) ∨ s.queue = .removeBlock port :: rest) →
      t.blockAt p = s.blockAt p

/-- R66, R180: the reload value that any command of any block leaves (what SET_ARR wrote, what SET_AUTO_PW resolved, what the
routine of SET_AUTO_FREQ left) is the period of the next SET_DUTY of every bound block, the same one or another: 0 is
`ERR_PERIOD_ZERO` with nothing written, any other value gives the compare value. -/
def Obligations.ReloadValueIsSharedBetweenBlocks : Prop :=
  ∀ (s : State) (p q : Nat) (w : CmdWord) (d : Word) (a b : Block) (k : Channel) (rest : List HostEvent),
    s.Inv → s.queue = .command p w :: .command q (encode (.setDuty d)) :: rest →
    s.blockAt p = some a → s.blockAt q = some b → b.bindValid = true → Channel.ofCode b.straps.ch = some k →
    DutyAccepted d →
    ∃ t u : State, step s = .next t ∧ step t = .next u ∧ u.queue = rest ∧ u.tr.regs.arr = t.tr.regs.arr ∧
      (∀ v, w = encode (.setArr v) → t.tr.regs.arr = v) ∧
      (∀ us psc arr, w = encode (.setAutoPw us) → searchResolve s.tr.busclk us = .found psc arr →
        s.tr.channel a.straps.ch ≠ none → t.tr.regs.arr = BitVec.ofNat 32 arr) ∧
      (∀ hz, w = encode (.setAutoFreq hz) → t.tr.regs.arr = (Config.trAutoFreq s.draws hz s.tr).2.arr) ∧
      (t.tr.regs.arr ≠ 0 → ((u.tr.regs.ccr.get k).toNat : ℤ) = ⌊dutyPercent d * t.tr.regs.arr.toNat / 100⌋ ∧
        u.replies = t.replies ++ [⟨q, ⟨.ok, 0⟩⟩]) ∧
      (t.tr.regs.arr = 0 → u.tr = t.tr ∧ u.replies = t.replies ++ [⟨q, ⟨.failed b.straps.errPeriodZero, 0⟩⟩])

/-- R70, R171, R200: from a state that meets the invariant, a list of commands to ports that exist runs to its end, whatever fails
on the way: one step and one response for each command, in order. -/
def Obligations.CommandListsRunToTheirEnd : Prop :=
  ∀ (cmds : List (Nat × CmdWord)) (s : State), s.Inv →
    s.queue = cmds.map (fun c => HostEvent.command c.1 c.2) →
    (∀ c ∈ cmds, ∃ b ∈ s.blocks, b.port = c.1) →
    ∃ t : State, Host.Core.run Sys2Proof.core cmds.length s = .next t ∧ t.queue = [] ∧ t.Inv ∧
      t.replies.map (·.port) = s.replies.map (·.port) ++ cmds.map (·.1)
end

