-- ==== Sys2Proof/Laws/State.lean ====
section
/-! SUPPORT. One lemma for each field of the state and each operation that makes a new state, true by rfl, so that no proof
unfolds a record update. -/

namespace Sys2Proof

@[simp] theorem Timer.withRegs_regs (tr : Timer) (g : TimerRegs) : (tr.withRegs g).regs = g := rfl
@[simp] theorem Timer.withRegs_busclk (tr : Timer) (g : TimerRegs) : (tr.withRegs g).busclk = tr.busclk := rfl
@[simp] theorem Timer.withRegs_supp (tr : Timer) (g : TimerRegs) : (tr.withRegs g).supp = tr.supp := rfl
@[simp] theorem Timer.withRegs_withRegs (tr : Timer) (g h : TimerRegs) : (tr.withRegs g).withRegs h = tr.withRegs h := rfl
@[simp] theorem Timer.withRegs_self (tr : Timer) : tr.withRegs tr.regs = tr := rfl
@[simp] theorem Timer.withRegs_channel (tr : Timer) (g : TimerRegs) (c : Strap) :
    (tr.withRegs g).channel c = tr.channel c := rfl

namespace Machine

variable (s : State)

/-! ### respond -/

@[simp] theorem State.respond_blk (r : Result) (d : Word) : (s.respond r d).blk = s.blk := rfl
@[simp] theorem State.respond_others (r : Result) (d : Word) : (s.respond r d).others = s.others := rfl
@[simp] theorem State.respond_tr (r : Result) (d : Word) : (s.respond r d).tr = s.tr := rfl
@[simp] theorem State.respond_draws (r : Result) (d : Word) : (s.respond r d).draws = s.draws := rfl
@[simp] theorem State.respond_present (r : Result) (d : Word) : (s.respond r d).present = s.present := rfl
@[simp] theorem State.respond_queue (r : Result) (d : Word) : (s.respond r d).queue = s.queue := rfl
@[simp] theorem State.respond_replies (r : Result) (d : Word) :
    (s.respond r d).replies = s.replies ++ [⟨s.blk.port, ⟨r, d⟩⟩] := rfl

/-! ### returnOk -/

@[simp] theorem State.returnOk_blk : s.returnOk.blk = s.blk := rfl
@[simp] theorem State.returnOk_others : s.returnOk.others = s.others := rfl
@[simp] theorem State.returnOk_tr : s.returnOk.tr = s.tr := rfl
@[simp] theorem State.returnOk_draws : s.returnOk.draws = s.draws := rfl
@[simp] theorem State.returnOk_present : s.returnOk.present = s.present := rfl
@[simp] theorem State.returnOk_queue : s.returnOk.queue = s.queue := rfl
@[simp] theorem State.returnOk_replies : s.returnOk.replies = s.replies ++ [⟨s.blk.port, ⟨.ok, 0⟩⟩] := rfl

/-! ### returnOkData -/

@[simp] theorem State.returnOkData_blk (d : Word) : (s.returnOkData d).blk = s.blk := rfl
@[simp] theorem State.returnOkData_others (d : Word) : (s.returnOkData d).others = s.others := rfl
@[simp] theorem State.returnOkData_tr (d : Word) : (s.returnOkData d).tr = s.tr := rfl
@[simp] theorem State.returnOkData_draws (d : Word) : (s.returnOkData d).draws = s.draws := rfl
@[simp] theorem State.returnOkData_present (d : Word) : (s.returnOkData d).present = s.present := rfl
@[simp] theorem State.returnOkData_queue (d : Word) : (s.returnOkData d).queue = s.queue := rfl
@[simp] theorem State.returnOkData_replies (d : Word) :
    (s.returnOkData d).replies = s.replies ++ [⟨s.blk.port, ⟨.ok, d⟩⟩] := rfl

/-! ### raise -/

@[simp] theorem State.raise_blk (f : Failure) : (s.raise f).blk = s.blk := rfl
@[simp] theorem State.raise_others (f : Failure) : (s.raise f).others = s.others := rfl
@[simp] theorem State.raise_tr (f : Failure) : (s.raise f).tr = s.tr := rfl
@[simp] theorem State.raise_draws (f : Failure) : (s.raise f).draws = s.draws := rfl
@[simp] theorem State.raise_present (f : Failure) : (s.raise f).present = s.present := rfl
@[simp] theorem State.raise_queue (f : Failure) : (s.raise f).queue = s.queue := rfl
@[simp] theorem State.raise_replies (f : Failure) :
    (s.raise f).replies = s.replies ++ [⟨s.blk.port, ⟨.failed f, 0⟩⟩] := rfl

/-! ### withRegs -/

@[simp] theorem State.withRegs_blk (g : TimerRegs) : (s.withRegs g).blk = s.blk := rfl
@[simp] theorem State.withRegs_others (g : TimerRegs) : (s.withRegs g).others = s.others := rfl
@[simp] theorem State.withRegs_tr (g : TimerRegs) : (s.withRegs g).tr = s.tr.withRegs g := rfl
@[simp] theorem State.withRegs_draws (g : TimerRegs) : (s.withRegs g).draws = s.draws := rfl
@[simp] theorem State.withRegs_present (g : TimerRegs) : (s.withRegs g).present = s.present := rfl
@[simp] theorem State.withRegs_queue (g : TimerRegs) : (s.withRegs g).queue = s.queue := rfl
@[simp] theorem State.withRegs_replies (g : TimerRegs) : (s.withRegs g).replies = s.replies := rfl

/-! ### writePsc -/

@[simp] theorem State.writePsc_blk (v : Half) : (s.writePsc v).blk = s.blk := rfl
@[simp] theorem State.writePsc_others (v : Half) : (s.writePsc v).others = s.others := rfl
@[simp] theorem State.writePsc_tr (v : Half) : (s.writePsc v).tr = s.tr.withRegs { s.tr.regs with psc := v } := rfl
@[simp] theorem State.writePsc_draws (v : Half) : (s.writePsc v).draws = s.draws := rfl
@[simp] theorem State.writePsc_present (v : Half) : (s.writePsc v).present = s.present := rfl
@[simp] theorem State.writePsc_queue (v : Half) : (s.writePsc v).queue = s.queue := rfl
@[simp] theorem State.writePsc_replies (v : Half) : (s.writePsc v).replies = s.replies := rfl

/-! ### writeArr -/

@[simp] theorem State.writeArr_blk (v : Word) : (s.writeArr v).blk = s.blk := rfl
@[simp] theorem State.writeArr_others (v : Word) : (s.writeArr v).others = s.others := rfl
@[simp] theorem State.writeArr_tr (v : Word) : (s.writeArr v).tr = s.tr.withRegs { s.tr.regs with arr := v } := rfl
@[simp] theorem State.writeArr_draws (v : Word) : (s.writeArr v).draws = s.draws := rfl
@[simp] theorem State.writeArr_present (v : Word) : (s.writeArr v).present = s.present := rfl
@[simp] theorem State.writeArr_queue (v : Word) : (s.writeArr v).queue = s.queue := rfl
@[simp] theorem State.writeArr_replies (v : Word) : (s.writeArr v).replies = s.replies := rfl

/-! ### writeCcr -/

@[simp] theorem State.writeCcr_blk (k : Channel) (v : Word) : (s.writeCcr k v).blk = s.blk := rfl
@[simp] theorem State.writeCcr_others (k : Channel) (v : Word) : (s.writeCcr k v).others = s.others := rfl
@[simp] theorem State.writeCcr_tr (k : Channel) (v : Word) :
    (s.writeCcr k v).tr = s.tr.withRegs { s.tr.regs with ccr := s.tr.regs.ccr.set k v } := rfl
@[simp] theorem State.writeCcr_draws (k : Channel) (v : Word) : (s.writeCcr k v).draws = s.draws := rfl
@[simp] theorem State.writeCcr_present (k : Channel) (v : Word) : (s.writeCcr k v).present = s.present := rfl
@[simp] theorem State.writeCcr_queue (k : Channel) (v : Word) : (s.writeCcr k v).queue = s.queue := rfl
@[simp] theorem State.writeCcr_replies (k : Channel) (v : Word) : (s.writeCcr k v).replies = s.replies := rfl

/-! ### writeEn -/

@[simp] theorem State.writeEn_blk (k : Channel) (v : Bool) : (s.writeEn k v).blk = s.blk := rfl
@[simp] theorem State.writeEn_others (k : Channel) (v : Bool) : (s.writeEn k v).others = s.others := rfl
@[simp] theorem State.writeEn_tr (k : Channel) (v : Bool) :
    (s.writeEn k v).tr = s.tr.withRegs { s.tr.regs with en := s.tr.regs.en.set k v } := rfl
@[simp] theorem State.writeEn_draws (k : Channel) (v : Bool) : (s.writeEn k v).draws = s.draws := rfl
@[simp] theorem State.writeEn_present (k : Channel) (v : Bool) : (s.writeEn k v).present = s.present := rfl
@[simp] theorem State.writeEn_queue (k : Channel) (v : Bool) : (s.writeEn k v).queue = s.queue := rfl
@[simp] theorem State.writeEn_replies (k : Channel) (v : Bool) : (s.writeEn k v).replies = s.replies := rfl

/-! ### bind -/

@[simp] theorem State.bind_blk : s.bind.blk = { s.blk with bindSlot := s.blk.straps.ch, bindValid := true } := rfl
@[simp] theorem State.bind_others : s.bind.others = s.others := rfl
@[simp] theorem State.bind_tr : s.bind.tr = s.tr := rfl
@[simp] theorem State.bind_draws : s.bind.draws = s.draws := rfl
@[simp] theorem State.bind_present : s.bind.present = s.present := rfl
@[simp] theorem State.bind_queue : s.bind.queue = s.queue := rfl
@[simp] theorem State.bind_replies : s.bind.replies = s.replies := rfl

/-! ### unbind -/

@[simp] theorem State.unbind_blk : s.unbind.blk = { s.blk with bindValid := false } := rfl
@[simp] theorem State.unbind_others : s.unbind.others = s.others := rfl
@[simp] theorem State.unbind_tr : s.unbind.tr = s.tr := rfl
@[simp] theorem State.unbind_draws : s.unbind.draws = s.draws := rfl
@[simp] theorem State.unbind_present : s.unbind.present = s.present := rfl
@[simp] theorem State.unbind_queue : s.unbind.queue = s.queue := rfl
@[simp] theorem State.unbind_replies : s.unbind.replies = s.replies := rfl

/-! ### resetBlock -/

@[simp] theorem State.resetBlock_blk : s.resetBlock.blk = ⟨s.blk.port, s.blk.straps, false, 0⟩ := rfl
@[simp] theorem State.resetBlock_others : s.resetBlock.others = s.others := rfl
@[simp] theorem State.resetBlock_tr : s.resetBlock.tr = s.tr := rfl
@[simp] theorem State.resetBlock_draws : s.resetBlock.draws = s.draws := rfl
@[simp] theorem State.resetBlock_present : s.resetBlock.present = s.present := rfl
@[simp] theorem State.resetBlock_queue : s.resetBlock.queue = s.queue := rfl
@[simp] theorem State.resetBlock_replies : s.resetBlock.replies = s.replies := rfl

/-! ### setBusclk -/

@[simp] theorem State.setBusclk_blk (hz : Word) : (s.setBusclk hz).blk = s.blk := rfl
@[simp] theorem State.setBusclk_others (hz : Word) : (s.setBusclk hz).others = s.others := rfl
@[simp] theorem State.setBusclk_tr (hz : Word) : (s.setBusclk hz).tr = { s.tr with busclk := hz } := rfl
@[simp] theorem State.setBusclk_draws (hz : Word) : (s.setBusclk hz).draws = s.draws := rfl
@[simp] theorem State.setBusclk_present (hz : Word) : (s.setBusclk hz).present = s.present := rfl
@[simp] theorem State.setBusclk_queue (hz : Word) : (s.setBusclk hz).queue = s.queue := rfl
@[simp] theorem State.setBusclk_replies (hz : Word) : (s.setBusclk hz).replies = s.replies := rfl

/-! ### buildBlock -/

@[simp] theorem State.buildBlock_blk (p : Nat) (g : Straps) : (s.buildBlock p g).blk = s.blk := rfl
@[simp] theorem State.buildBlock_others (p : Nat) (g : Straps) :
    (s.buildBlock p g).others = s.others ++ [⟨p, g, false, 0⟩] := rfl
@[simp] theorem State.buildBlock_tr (p : Nat) (g : Straps) : (s.buildBlock p g).tr = s.tr := rfl
@[simp] theorem State.buildBlock_draws (p : Nat) (g : Straps) : (s.buildBlock p g).draws = s.draws := rfl
@[simp] theorem State.buildBlock_present (p : Nat) (g : Straps) : (s.buildBlock p g).present = s.present := rfl
@[simp] theorem State.buildBlock_queue (p : Nat) (g : Straps) : (s.buildBlock p g).queue = s.queue := rfl
@[simp] theorem State.buildBlock_replies (p : Nat) (g : Straps) : (s.buildBlock p g).replies = s.replies := rfl

/-! ### removeBlock -/

@[simp] theorem State.removeBlock_blk : s.removeBlock.blk = s.blk := rfl
@[simp] theorem State.removeBlock_others : s.removeBlock.others = s.others := rfl
@[simp] theorem State.removeBlock_tr : s.removeBlock.tr = s.tr := rfl
@[simp] theorem State.removeBlock_draws : s.removeBlock.draws = s.draws := rfl
@[simp] theorem State.removeBlock_present : s.removeBlock.present = false := rfl
@[simp] theorem State.removeBlock_queue : s.removeBlock.queue = s.queue := rfl
@[simp] theorem State.removeBlock_replies : s.removeBlock.replies = s.replies := rfl
@[simp] theorem State.removeBlock_blocks : s.removeBlock.blocks = s.others := rfl

/-! ### withBinding -/

@[simp] theorem State.withBinding_blk (v : Bool) (c : Strap) :
    (s.withBinding v c).blk = { s.blk with bindValid := v, bindSlot := c } := rfl
@[simp] theorem State.withBinding_others (v : Bool) (c : Strap) : (s.withBinding v c).others = s.others := rfl
@[simp] theorem State.withBinding_tr (v : Bool) (c : Strap) : (s.withBinding v c).tr = s.tr := rfl
@[simp] theorem State.withBinding_draws (v : Bool) (c : Strap) : (s.withBinding v c).draws = s.draws := rfl
@[simp] theorem State.withBinding_present (v : Bool) (c : Strap) : (s.withBinding v c).present = s.present := rfl
@[simp] theorem State.withBinding_queue (v : Bool) (c : Strap) : (s.withBinding v c).queue = s.queue := rfl
@[simp] theorem State.withBinding_replies (v : Bool) (c : Strap) : (s.withBinding v c).replies = s.replies := rfl

end Machine
end Sys2Proof
end

