-- ==== Sys2Proof/Laws/Ops.lean ====
section
/-! SUPPORT. What each shared operation can do, said once: channels, the timer resource's own routines, the binding write, the
choice of the addressed block, the end of a command. -/

namespace Sys2Proof

/-! ### One value for each channel -/

@[simp] theorem PerChannel.get_set_same {α : Type} (p : PerChannel α) (k : Channel) (v : α) : (p.set k v).get k = v := by
  cases k <;> rfl

theorem PerChannel.get_set_ne {α : Type} (p : PerChannel α) {k j : Channel} (h : j ≠ k) (v : α) :
    (p.set k v).get j = p.get j := by
  cases k <;> cases j <;> first | rfl | exact absurd rfl h

@[simp] theorem PerChannel.set_set {α : Type} (p : PerChannel α) (k : Channel) (v w : α) :
    (p.set k v).set k w = p.set k w := by
  cases k <;> rfl

@[simp] theorem PerChannel.set_get {α : Type} (p : PerChannel α) (k : Channel) : p.set k (p.get k) = p := by
  cases k <;> rfl

/-! ### Channels -/

theorem Timer.channel_eq_some {tr : Timer} {c : Strap} {k : Channel} :
    tr.channel c = some k ↔ Channel.ofCode c = some k ∧ tr.supp.get k = true := by
  unfold Timer.channel
  cases Channel.ofCode c with
  | none => simp
  | some j => by_cases h : tr.supp.get j = true <;> simp [h] <;> rintro rfl <;> simp_all

/-- R22: the codes 0 and 7 name no channel, whatever the timer resource supports. -/
theorem Timer.channel_zero_seven (tr : Timer) : tr.channel 0 = none ∧ tr.channel 7 = none := ⟨rfl, rfl⟩

theorem Timer.channel_congr {tr tr' : Timer} (h : tr'.supp = tr.supp) (c : Strap) : tr'.channel c = tr.channel c := by
  simp [Timer.channel, h]

/-! ### `TR_INIT` (R101) -/

theorem Timer.init_eq_withRegs (tr : Timer) : ∃ g, (tr.init).2 = tr.withRegs g := by
  unfold Timer.init
  by_cases h : Config.trInitRaw (tr.withRegs (Config.trInitRaw tr).2) = Config.trInitRaw tr
  · exact ⟨(Config.trInitRaw tr).2, by simp [h]⟩
  · exact ⟨tr.regs, by simp [h]⟩

@[simp] theorem Timer.init_busclk (tr : Timer) : (tr.init).2.busclk = tr.busclk := by
  obtain ⟨g, h⟩ := tr.init_eq_withRegs; simp [h]

@[simp] theorem Timer.init_supp (tr : Timer) : (tr.init).2.supp = tr.supp := by
  obtain ⟨g, h⟩ := tr.init_eq_withRegs; simp [h]

/-- Where the timer resource's own `Init()` answers as the reference platform's does (Ok, nothing changed), so does `TR_INIT`. -/
theorem Timer.init_of_reference {tr : Timer} (h : Config.trInitRaw tr = (.ok, tr.regs)) : tr.init = (.ok, tr) := by
  simp only [Timer.init, h, Timer.withRegs_self, if_true]

namespace Machine

/-! ### The end of a command -/

@[simp] theorem State.respond_channel (s : State) (r : Result) (d : Word) : (s.respond r d).channel = s.channel := rfl

theorem State.answered_eq_append (s : State) (r : Result) (d : Word) :
    s.answered r d = s.replies ++ [⟨s.blk.port, ⟨r, d⟩⟩] := rfl

/-- Two answers in one place are the same answer. -/
theorem State.answered_inj {s : State} {r r' : Result} {d d' : Word} :
    s.answered r d = s.answered r' d' ↔ r = r' ∧ d = d' := by
  simp [State.answered]

/-! ### The binding write (R52) -/

/-- If `BindWrite` answers, it wrote one compare register: that of the supported channel the slot names. -/
theorem State.bindWrite_eq_some {s t : State} {v : Word} (h : s.bindWrite v = some t) :
    ∃ k, s.tr.channel s.blk.bindSlot = some k ∧ t = s.writeCcr k v := by
  unfold State.bindWrite at h
  split at h
  · rename_i k hk
    exact ⟨k, hk, by simpa using h.symm⟩
  · exact absurd h (by simp)

theorem State.bindWrite_eq_none {s : State} {v : Word} : s.bindWrite v = none ↔ s.tr.channel s.blk.bindSlot = none := by
  unfold State.bindWrite
  split <;> simp_all

theorem State.bindWrite_of_channel {s : State} {v : Word} {k : Channel} (h : s.tr.channel s.blk.bindSlot = some k) :
    s.bindWrite v = some (s.writeCcr k v) := by
  simp [State.bindWrite, h]

/-! ### The addressed block -/

theorem State.blocks_of_present {s : State} (h : s.present = true) : s.blocks = s.blk :: s.others := by
  simp [State.blocks, h]

/-- An operation that keeps the port in front, the others and the presence keeps the ports. -/
theorem State.blocks_ports_congr {s t : State} (ho : t.others = s.others) (hp : t.blk.port = s.blk.port)
    (hb : t.present = s.present) : t.blocks.map (·.port) = s.blocks.map (·.port) := by
  cases h : s.present <;> simp [State.blocks, hb, h, ho, hp]

theorem State.blockAt_eq_some {s : State} {port : Nat} {b : Block} (h : s.blockAt port = some b) :
    b ∈ s.blocks ∧ b.port = port :=
  ⟨List.mem_of_find?_eq_some h, by simpa using List.find?_some h⟩

theorem State.blockAt_eq_none {s : State} {port : Nat} : s.blockAt port = none ↔ ∀ b ∈ s.blocks, b.port ≠ port := by
  simp [State.blockAt]

/-- If a block is put in front, the blocks are the same blocks, that one answers to the port, and nothing else changed. -/
theorem State.select_eq_some {s t : State} {port : Nat} (h : s.select port = some t) :
    (t.blk :: t.others).Perm s.blocks ∧ t.blk.port = port ∧ t.present = true ∧ t.tr = s.tr ∧ t.draws = s.draws ∧
      t.queue = s.queue ∧ t.replies = s.replies := by
  unfold State.select at h
  split at h
  · rename_i b hb
    cases h
    obtain ⟨hm, hp⟩ := State.blockAt_eq_some hb
    exact ⟨(List.perm_cons_erase hm).symm, hp, rfl, rfl, rfl, rfl, rfl⟩
  · exact absurd h (by simp)

theorem State.select_of_blockAt {s : State} {port : Nat} {b : Block} (h : s.blockAt port = some b) :
    s.select port = some { s with blk := b, others := s.blocks.erase b, present := true } := by
  simp [State.select, h]

theorem State.select_self {s : State} (h : s.present = true) : s.select s.blk.port = some s := by
  obtain ⟨blk, others, present, tr, draws, queue, replies⟩ := s
  cases h
  simp [State.select, State.blockAt, State.blocks]

theorem State.select_eq_none {s : State} {port : Nat} : s.select port = none ↔ s.blockAt port = none := by
  unfold State.select
  cases s.blockAt port <;> simp

/-! ### The next event -/

theorem State.fetch_nil {s : State} (h : s.queue = []) : s.fetch = .idle s := by simp [State.fetch, h]

theorem State.fetch_command {s t : State} {port : Nat} {w : CmdWord} {rest : List HostEvent}
    (h : s.queue = .command port w :: rest) (ht : { s with queue := rest }.select port = some t) :
    s.fetch = .command w t := by
  simp [State.fetch, h, ht]

theorem State.fetch_resetBlock {s t : State} {port : Nat} {rest : List HostEvent}
    (h : s.queue = .resetBlock port :: rest) (ht : { s with queue := rest }.select port = some t) :
    s.fetch = .done t.resetBlock := by
  simp [State.fetch, h, ht]

theorem State.fetch_buildBlock {s : State} {port : Nat} {straps : Straps} {rest : List HostEvent}
    (h : s.queue = .buildBlock port straps :: rest) (hp : s.blockAt port = none) :
    s.fetch = .done ({ s with queue := rest }.buildBlock port straps) := by
  simp [State.fetch, h, hp]

theorem State.fetch_removeBlock {s t : State} {port : Nat} {rest : List HostEvent}
    (h : s.queue = .removeBlock port :: rest) (ht : { s with queue := rest }.select port = some t) :
    s.fetch = .done t.removeBlock := by
  simp [State.fetch, h, ht]

theorem State.fetch_busClock {s : State} {hz : Word} {rest : List HostEvent} (h : s.queue = .busClock hz :: rest) :
    s.fetch = .done ({ s with queue := rest }.setBusclk hz) := by
  simp [State.fetch, h]

theorem step_command {s t : State} {port : Nat} {w : CmdWord} {rest : List HostEvent}
    (h : s.queue = .command port w :: rest) (ht : { s with queue := rest }.select port = some t) :
    step s = exec (decode w) t := by
  simp [step, State.fetch_command h ht]

end Machine
end Sys2Proof
end

