-- ==== Sys2Proof/Laws/Exec.lean ====
section
/-! SUPPORT. What a command's meaning can answer, said once for each meaning that has more than one case, and the arithmetic of
the resolver's closed form over the natural numbers. -/

namespace Sys2Proof.Machine

open Sys2Proof

/-! ### Channel checks do not depend on what commands change -/

theorem State.channel_congr {s t : State} (hs : t.tr.supp = s.tr.supp) (hc : t.blk.straps = s.blk.straps) :
    t.channel = s.channel := by
  simp only [State.channel, hc]
  exact Timer.channel_congr hs _

@[simp] theorem State.callInit_channel (s : State) : s.callInit.2.channel = s.channel :=
  State.channel_congr (by simp [State.callInit]) rfl

theorem State.channel_eq_some {s : State} {k : Channel} :
    s.channel = some k ↔ Channel.ofCode s.blk.straps.ch = some k ∧ s.tr.supp.get k = true :=
  Timer.channel_eq_some

/-! ### What each meaning answers -/

/-- SET_DUTY that answers either failed and wrote nothing, or wrote one compare value through the binding. -/
theorem execSetDuty_eq_next {d : Word} {s t : State} (h : execSetDuty d s = .next t) :
    (∃ f, f ∈ [Failure.invalidParameter, s.blk.straps.errPeriodZero, .unsupportedChannel] ∧ t = s.raise f) ∨
      ∃ k, s.blk.bindValid = true ∧ s.tr.channel s.blk.bindSlot = some k ∧
        t = (s.writeCcr k (BitVec.ofNat 32 (compareValue (fval d).clampDuty s.readArr.toNat))).returnOk := by
  unfold execSetDuty at h
  split_ifs at h with _ _ hb
  · cases h; exact .inl ⟨_, by simp, rfl⟩
  · cases h; exact .inl ⟨_, by simp, rfl⟩
  · cases h; exact .inl ⟨_, by simp, rfl⟩
  · split at h
    · rename_i u hu
      cases h
      obtain ⟨k, hk, rfl⟩ := State.bindWrite_eq_some hu
      exact .inr ⟨k, by simpa using hb, hk, rfl⟩
    · cases h

/-- SET_AUTO_PW either failed and wrote nothing, or programmed the pair the resolver found. -/
theorem execSetAutoPw_cases (us : Word) (s : State) :
    (∃ f, execSetAutoPw us s = .next (s.raise f)) ∨
      ∃ k psc arr, s.channel = some k ∧ resolve s.readBusclk.toNat (fval us) = .found psc arr ∧
        execSetAutoPw us s = .next (s.programPair k psc arr).returnOk := by
  unfold execSetAutoPw
  cases hr : resolve s.readBusclk.toNat (fval us) with
  | failed f => exact .inl ⟨f, rfl⟩
  | found psc arr =>
    cases hk : s.channel with
    | none => exact .inl ⟨_, rfl⟩
    | some k => exact .inr ⟨k, psc, arr, rfl, rfl, rfl⟩

/-- SET_CCR either failed on its channel, or wrote its own compare register. -/
theorem execSetCcr_cases (v : Word) (s : State) :
    (s.channel = none ∧ execSetCcr v s = .next (s.raise .unsupportedChannel)) ∨
      ∃ k, s.channel = some k ∧ execSetCcr v s = .next (s.writeCcr k v).returnOk := by
  unfold execSetCcr
  cases hk : s.channel with
  | none => exact .inl ⟨rfl, rfl⟩
  | some k => exact .inr ⟨k, rfl, rfl⟩

/-- A start or stop call touches one enable bit and takes one draw. -/
theorem State.callStartStop_eq (s : State) (k : Channel) (v : Bool) :
    ∃ ok b, s.callStartStop k v = (ok, { s.writeEn k b with draws := s.draws + 1 }) ∧ (ok = true → b = v) := by
  refine ⟨_, _, rfl, ?_⟩
  intro h
  simp [h]

/-! ### The resolver's closed form (R134 item 1) -/

/-- A candidate fits 16 bits exactly from the prescaler `floor(X / 65536) + 1` on. -/
theorem candidate_fits_iff {x : Frac} (hd : 0 < x.den) {psc : Nat} (hp : 0 < psc) :
    candidate x psc ≤ 65535 ↔ x.num / (x.den * 65536) + 1 ≤ psc := by
  have h1 : candidate x psc ≤ 65535 ↔ x.num < 65536 * (x.den * psc) := by
    unfold candidate
    rw [← Nat.lt_succ_iff, Nat.div_lt_iff_lt_mul (Nat.mul_pos hd hp)]
  have h2 : x.num / (x.den * 65536) < psc ↔ x.num < psc * (x.den * 65536) :=
    Nat.div_lt_iff_lt_mul (by omega)
  have h3 : psc * (x.den * 65536) = 65536 * (x.den * psc) := by ring
  rw [h1, Nat.add_one_le_iff, h2, h3]

/-- A compare value is never above the period (R115). -/
theorem compareValue_le (dc : Frac) (period : Nat) : compareValue dc period ≤ period := Nat.min_le_right _ _

end Sys2Proof.Machine
end

