-- ==== Sys2Proof/Laws/PerInstr.lean ====
section
/-! SUPPORT. Statements made for each constructor of `Instr`. The family OpcodeField: the opcode bits of an encoded command are
its opcode, and its operand bits its operand (R71, R72). -/

namespace Sys2Proof.Laws.OpcodeField

/-- `word[35:32]` of the encoding is the opcode of R72, and `word[31:0]` is the operand. -/
def Statement (i : Instr) : Prop := (encode i).op = i.opcode ∧ (encode i).arg = i.operand

/-- The fields of a word put together from an opcode and an operand. -/
theorem fields_of_append (o : BitVec 4) (a : Word) :
    CmdWord.op (o ++ a : BitVec (4 + 32)) = o ∧ CmdWord.arg (o ++ a : BitVec (4 + 32)) = a := by
  have h : BitVec.toNat (o ++ a : BitVec (4 + 32)) = o.toNat * 2 ^ 32 + a.toNat := by
    rw [BitVec.toNat_append, Nat.shiftLeft_eq, Nat.mul_comm, ← Nat.two_pow_add_eq_or_of_lt a.isLt, Nat.mul_comm]
  have ho := o.isLt
  have ha := a.isLt
  constructor <;> apply BitVec.eq_of_toNat_eq <;>
    simp only [CmdWord.op, CmdWord.arg, BitVec.extractLsb'_toNat, h, Nat.shiftRight_eq_div_pow] <;> omega

theorem init (a : Word) : Statement (.init a) := fields_of_append _ _
theorem setDuty (d : Word) : Statement (.setDuty d) := fields_of_append _ _
theorem setAutoFreq (hz : Word) : Statement (.setAutoFreq hz) := fields_of_append _ _
theorem setAutoPw (us : Word) : Statement (.setAutoPw us) := fields_of_append _ _
theorem setArr (v : Word) : Statement (.setArr v) := fields_of_append _ _
theorem setCcr (v : Word) : Statement (.setCcr v) := fields_of_append _ _
theorem setPsr (hi v : Half) : Statement (.setPsr hi v) := fields_of_append _ _
theorem enable (a : Word) : Statement (.enable a) := fields_of_append _ _
theorem disable (a : Word) : Statement (.disable a) := fields_of_append _ _
theorem getTim (a : Word) : Statement (.getTim a) := fields_of_append _ _
theorem reserved0 (a : Word) : Statement (.reserved0 a) := fields_of_append _ _
theorem reservedB (a : Word) : Statement (.reservedB a) := fields_of_append _ _
theorem reservedCToF (op : BitVec 4) (a : Word) : Statement (.reservedCToF op a) := fields_of_append _ _

end Sys2Proof.Laws.OpcodeField
end

