-- ==== Sys2Proof/Tests/Slice0.lean ====
section
/-! SUPPORT. Tests of the model, each expected value taken from spec/ (the section is named), and for every statement with
hypotheses a witness that meets them. -/

namespace Sys2Proof.Tests

open Sys2Proof Sys2Proof.Machine

/-! ### Small states -/

/-- A block with channel `ch` on the reference platform, `valid` its binding, `arr` the reload value, `hz` the bus clock. -/
def onBlock (ch : Strap) (valid : Bool) (arr hz : Word) : State :=
  { State.reset with
    blk := ⟨0, { referenceStraps with ch := ch }, valid, if valid then ch else 0⟩
    tr := { referenceTimer with regs := { referenceTimer.regs with arr := arr }, busclk := hz } }

/-- Two bound blocks, CH1 on port 0 and CH2 on port 1, and what the host does next. -/
def twoBlocks (queue : List HostEvent) : State :=
  { onBlock 1 true 100 1000000 with
    others := [⟨1, { referenceStraps with ch := 2 }, true, 2⟩]
    queue := queue }

/-- The last response of a next state. -/
def answer : Host.Outcome State Fault Refusal → Option Response
  | .next t => t.replies.getLast?.map (·.response)
  | .fault _ => none
  | .refused _ => none

/-- The registers of a next state. -/
def regs : Host.Outcome State Fault Refusal → Option TimerRegs
  | .next t => some t.tr.regs
  | .fault _ => none
  | .refused _ => none

/-- A failure answer. -/
abbrev no (why : Failure) : Option Response := some ⟨.failed why, 0⟩

/-- The answer `(Ok, 0)`. -/
abbrev yes : Option Response := some ⟨.ok, 0⟩

/-! ### WellFormed: the one check refuses an ill-formed term (R72: bits 35:34 of the row are 0b11) -/

theorem test_wellFormed_refuses_low_opcodes :
    (Instr.reservedCToF 11 0).wellFormed = false ∧ (Instr.reservedCToF 0 0xFFFFFFFF).wellFormed = false ∧
      (Instr.reservedCToF 12 0).wellFormed = true := by decide

/-! ### Decoding (R71, R72, R82; words of spec/95_test_vectors.md) -/

theorem test_decode_init : decode 0x1DEADBEEF = .init 0xDEADBEEF := by decide
theorem test_decode_setDuty : decode 0x242053333 = .setDuty 0x42053333 := by decide
theorem test_decode_setAutoFreq : decode 0x3C0A00000 = .setAutoFreq 0xC0A00000 := by decide
theorem test_decode_setAutoPw : decode 0x449742400 = .setAutoPw 0x49742400 := by decide
theorem test_decode_setArr : decode 0x5000003E7 = .setArr 999 := by decide
theorem test_decode_setCcr : decode 0x6000000FA = .setCcr 250 := by decide
theorem test_decode_setPsr : decode 0x700010047 = .setPsr 1 71 := by decide
theorem test_decode_enable : decode 0x800000000 = .enable 0 := by decide
theorem test_decode_disable : decode 0x900000000 = .disable 0 := by decide
theorem test_decode_getTim : decode 0xA00000000 = .getTim 0 := by decide
theorem test_decode_reserved0 : decode 0x000000000 = .reserved0 0 := by decide
theorem test_decode_reservedB : decode 0xB00000000 = .reservedB 0 := by decide
theorem test_decode_reservedCToF :
    decode 0xC12345678 = .reservedCToF 12 0x12345678 ∧ decode 0xFFFFFFFFF = .reservedCToF 15 0xFFFFFFFF := by decide

/-- A number of 37 bits is no command word (R71). -/
theorem test_decode_rejects_wide :
    decodeNat 0x1000000000 = .error .widerThanCommandWord ∧ decodeTableWord 40 0x1000000000 = none ∧
      decodeTableWord 40 0xFFFFFFFFF = some (.reservedCToF 15 0xFFFFFFFF) := ⟨rfl, rfl, rfl⟩

theorem test_encode_setPsr : encode (.setPsr 0 2746) = 0x700000ABA := by decide

/-! ### Float operands (R79, spec/95_test_vectors.md 2.1) -/

theorem test_fval_zeros : fval 0x00000000 = .fin 0 (2 ^ 149) ∧ fval 0x80000000 = .fin 0 (2 ^ 149) := by decide +kernel
theorem test_fval_subnormals :
    fval 0x00000001 = .fin 1 (2 ^ 149) ∧ fval 0x80000001 = .fin (-1) (2 ^ 149) := by decide +kernel
theorem test_fval_tokens :
    fval 0x7F800000 = .posInf ∧ fval 0xFF800000 = .negInf ∧ fval 0x7FC00000 = .nan ∧ fval 0xFFC00000 = .nan ∧
      fval 0x7F800001 = .nan := by decide +kernel
/-- 13107201/131072 and 13421773/134217728, in the spec's own lowest terms; 4294901760 above the exponent 150. -/
theorem test_fval_normals :
    fval 0x42C80001 = .fin 13107201 131072 ∧ fval 0x3DCCCCCD = .fin 13421773 134217728 ∧
      fval 0x4F7FFF00 = .fin 4294901760 1 := by decide +kernel

/-! ### The response word (R75, R77) -/

theorem test_response_word :
    responseWord ⟨.failed .hardwareOperationFailed, 0⟩ = 0x400000000 ∧ responseWord ⟨.ok, 3⟩ = 0x000000003 ∧
      responseOfWord 0x500000000 = none := by decide

/-! ### The assembler (R82; patterns of R79 and spec/95_test_vectors.md) -/

theorem test_assembler_rounds_to_nearest :
    (FloatLit.decimal false 333 10).bits = 0x42053333 ∧ (FloatLit.decimal false 1 10).bits = 0x3DCCCCCD ∧
      (FloatLit.decimal false 9999 100).bits = 0x42C7FAE1 ∧ (FloatLit.decimal false 999999 1000000).bits = 0x3F7FFFEF ∧
      (FloatLit.decimal false 1000000000 1).bits = 0x4E6E6B28 ∧ (FloatLit.decimal false 5 1000).bits = 0x3BA3D70A ∧
      (FloatLit.decimal true 5 1).bits = 0xC0A00000 := by decide +kernel
theorem test_assembler_words :
    (AsmLine.setDuty (.decimal false 50 1)).word = 0x242480000 ∧ (AsmLine.setPsr 2746).word = 0x700000ABA ∧
      AsmLine.getTim.word = 0xA00000000 := by decide +kernel

/-! ### INIT and GET_TIM (spec/95_test_vectors.md 2.6; conditional on what `TR_INIT` answers) -/

theorem test_init_binds (h : Config.trInitRaw (onBlock 2 false 0 0).tr = (.ok, (onBlock 2 false 0 0).tr.regs)) :
    exec (.init 0xDEADBEEF) (onBlock 2 false 0 0) =
      .next { onBlock 2 true 0 0 with replies := [⟨0, ⟨.ok, 0⟩⟩] } := by
  simp only [exec, execInit, State.callInit, Timer.init_of_reference h]
  rfl

theorem test_init_fails_on_unsupported
    (h : Config.trInitRaw (onBlock 5 false 0 0).tr = (.ok, (onBlock 5 false 0 0).tr.regs)) :
    exec (.init 0) (onBlock 5 false 0 0) =
      .next { onBlock 5 false 0 0 with replies := [⟨0, ⟨.failed .unsupportedChannel, 0⟩⟩] } := by
  simp only [exec, execInit, State.callInit, Timer.init_of_reference h]
  rfl

theorem test_getTim : answer (exec (.getTim 0) (onBlock 5 false 0 0)) = some ⟨.ok, 3⟩ := by decide

/-! ### SET_DUTY (spec/95_test_vectors.md 2.2) -/

/-- The compare value for a period and a pattern on a bound block. -/
def duty (period d : Word) : Option Word := (regs (exec (.setDuty d) (onBlock 1 true period 0))).map (·.ccr.ch1)

theorem test_setDuty_values :
    duty 65535 0x42053333 = some 21823 ∧ duty 65535 0x42C7FFFF = some 65534 ∧ duty 999 0x3DCCCCCD = some 0 ∧
      duty 1000 0x3DCCCCCD = some 1 ∧ duty 100 0x41E80000 = some 29 ∧ duty 65454 0x40F00000 = some 4909 ∧
      duty 0xFFFFFFFF 0x42960000 = some 3221225471 ∧ duty 65535 0x7F800000 = some 65535 ∧
      duty 1000 0x43160000 = some 1000 := by decide +kernel

theorem test_setDuty_failures :
    answer (exec (.setDuty 0x80000001) (onBlock 1 true 100 0)) = no .invalidParameter ∧
      answer (exec (.setDuty 0x42480000) (onBlock 1 false 100 0)) = no .unsupportedChannel ∧
      answer (exec (.setDuty 0x42480000) (onBlock 1 false 0 0)) = no .configurationUnattainable ∧
      answer (exec (.setDuty 0xBF800000) (onBlock 1 false 0 0)) = no .invalidParameter ∧
      answer (exec (.setDuty 0x42480000) ((onBlock 1 true 100 0).withBinding true 5)) = none := by decide +kernel

/-! ### SET_AUTO_FREQ (spec/95_test_vectors.md 2.3; conditional on what `TR_AUTOFREQ` answers) -/

theorem test_setAutoFreq_passes_on (g : TimerRegs)
    (h : Config.trAutoFreq 0 0xC0A00000 (onBlock 5 false 7 0).tr = (.failed .invalidParameter, g)) :
    answer (exec (.setAutoFreq 0xC0A00000) (onBlock 5 false 7 0)) = no .invalidParameter ∧
      regs (exec (.setAutoFreq 0xC0A00000) (onBlock 5 false 7 0)) = some g := by
  have hd : (onBlock 5 false 7 0).draws = 0 := rfl
  simp only [exec, execSetAutoFreq, State.callAutoFreq, hd, h]
  exact ⟨rfl, rfl⟩

/-! ### SET_AUTO_PW (spec/95_test_vectors.md S1, S2, 2.4) -/

/-- Prescaler register, reload value and compare value for a bus clock and a pattern. -/
def pair (hz us : Word) : Option (Half × Word × Word) :=
  (regs (exec (.setAutoPw us) (onBlock 1 false 0 hz))).map fun g => (g.psc, g.arr, g.ccr.ch1)

theorem test_setAutoPw_values :
    pair 1000000 0x42C80000 = some (0, 100, 50) ∧ pair 180000000 0x49742400 = some (2746, 65526, 32763) ∧
      pair 72000000 0x4463C000 = some (1, 32796, 16398) ∧ pair 1000000 0x3F800000 = some (0, 1, 0) ∧
      pair 1000000 0x477FFFFF = some (0, 65535, 32767) ∧ pair 1000000 0x47800000 = some (1, 32768, 16384) ∧
      pair 0xFFFFFFFF 0x3F800000 = some (0, 4294, 2147) ∧
      pair 1000000 0x4F7FFEFF = some (65534, 65535, 32767) := by decide +kernel

theorem test_setAutoPw_failures :
    answer (exec (.setAutoPw 0x3F7FFFEF) (onBlock 1 true 9 1000000)) = no .invalidParameter ∧
      answer (exec (.setAutoPw 0x7F800000) (onBlock 1 true 9 0)) = no .invalidParameter ∧
      answer (exec (.setAutoPw 0x4F7FFF00) (onBlock 1 true 9 1000000)) = no .configurationUnattainable ∧
      answer (exec (.setAutoPw 0x7F800000) (onBlock 5 true 9 1)) = no .configurationUnattainable ∧
      answer (exec (.setAutoPw 0x42C80000) (onBlock 5 false 9 1000000)) = no .unsupportedChannel ∧
      (regs (exec (.setAutoPw 0x42C80000) (onBlock 5 false 9 1000000))).map (·.arr) = some 9 := by decide +kernel

/-! ### SET_ARR, SET_CCR, SET_PSR (spec/95_test_vectors.md 2.5) -/

theorem test_setArr :
    (regs (exec (.setArr 0xFFFFFFFF) (onBlock 5 false 999 0))).map (·.arr) = some 4294967295 ∧
      answer (exec (.setArr 0) (onBlock 5 false 999 0)) = yes := by decide

theorem test_setCcr :
    (regs (exec (.setCcr 250) (onBlock 2 false 100 0))).map (·.ccr) = some ⟨0, 250, 0, 0, 0, 0⟩ ∧
      exec (.setCcr 250) (onBlock 5 false 100 0) =
        .next { onBlock 5 false 100 0 with replies := [⟨0, ⟨.failed .unsupportedChannel, 0⟩⟩] } := ⟨rfl, rfl⟩

theorem test_setPsr :
    (regs (exec (decode 0x700010047) (onBlock 5 false 0 0))).map (·.psc) = some 71 ∧
      (regs (exec (decode 0x70000FFFF) (onBlock 1 false 0 0))).map (·.psc) = some 65535 := by decide

/-! ### ENABLE and DISABLE (spec/95_test_vectors.md 2.6; conditional on the draw) -/

theorem test_enable (h : Config.startStopOk 0 = true) :
    answer (exec (.enable 0) (onBlock 1 false 0 0)) = yes ∧
      (regs (exec (.enable 0) (onBlock 1 false 0 0))).map (·.en) = some ⟨true, false, false, false, false, false⟩ := by
  have hd : (onBlock 1 false 0 0).draws = 0 := rfl
  have hc : (onBlock 1 false 0 0).channel = some .ch1 := rfl
  simp only [exec, execEnable, hc, State.callStart, State.callStartStop, startStopAnswer, hd, h, if_true]
  exact ⟨rfl, rfl⟩

theorem test_enable_disable_unsupported :
    exec (.enable 0) (onBlock 5 false 0 0) =
        .next { onBlock 5 false 0 0 with replies := [⟨0, ⟨.failed .unsupportedChannel, 0⟩⟩] } ∧
      exec (.disable 0) (onBlock 7 false 0 0) =
        .next { onBlock 7 false 0 0 with replies := [⟨0, ⟨.failed .unsupportedChannel, 0⟩⟩] } := ⟨rfl, rfl⟩

theorem test_disable_failed_stop (h : Config.startStopOk 0 = false) :
    answer (exec (.disable 0) (onBlock 1 false 0 0)) = no .hardwareOperationFailed := by
  have hd : (onBlock 1 false 0 0).draws = 0 := rfl
  have hc : (onBlock 1 false 0 0).channel = some .ch1 := rfl
  simp only [exec, execDisable, hc, State.callStop, State.callStartStop, startStopAnswer, hd, h]
  rfl

/-! ### The reserved opcodes (spec/95_test_vectors.md 2.6) -/

theorem test_reserved :
    exec (decode 0x000000000) State.reset =
        .next { State.reset with replies := [⟨0, ⟨.failed .invalidParameter, 0⟩⟩] } ∧
      exec (decode 0xB00000000) State.reset =
        .next { State.reset with replies := [⟨0, ⟨.failed .invalidParameter, 0⟩⟩] } ∧
      exec (decode 0xFFFFFFFFF) State.reset =
        .next { State.reset with replies := [⟨0, ⟨.failed .invalidParameter, 0⟩⟩] } := ⟨rfl, rfl, rfl⟩

/-! ### The step (R70, R180; the first rows of program 3 with a period already set) -/

theorem test_step_runs_placed_word :
    step (State.reset.withFetchWord 40 0x5000003E7) = exec (.setArr 999) State.reset := rfl

theorem test_step_serves_other_block :
    step (twoBlocks [.command 1 0x241C80000]) =
      .next { twoBlocks [] with
        blk := ⟨1, { referenceStraps with ch := 2 }, true, 2⟩
        others := [⟨0, referenceStraps, true, 1⟩]
        tr := { (twoBlocks []).tr with regs := { (twoBlocks []).tr.regs with ccr := ⟨0, 25, 0, 0, 0, 0⟩ } }
        replies := [⟨1, ⟨.ok, 0⟩⟩] } := by rfl

/-- R24: the only block is removed, the reload value stays, and another can be built on its port. -/
theorem test_remove_only_block :
    step { onBlock 1 true 999 0 with queue := [.removeBlock 0] } = .next { onBlock 1 true 999 0 with present := false } ∧
      step { onBlock 1 true 999 0 with present := false, queue := [.buildBlock 0 referenceStraps] } =
        .next { onBlock 1 true 999 0 with present := false, others := [⟨0, referenceStraps, false, 0⟩] } := ⟨rfl, rfl⟩

/-! ### Witnesses: for each statement with hypotheses, states and operands that meet them all -/

theorem value_eq {b : Word} (n : Nat) (h : b.toNat = n) :
    f32Value b =
      if n / 2 ^ 23 % 256 = 0 then (if 2 ^ 31 ≤ n then -1 else 1) * ((n % 2 ^ 23 : Nat) : ℚ) * (2 : ℚ) ^ (-149 : ℤ)
      else (if 2 ^ 31 ≤ n then -1 else 1) * (2 ^ 23 + ((n % 2 ^ 23 : Nat) : ℚ)) *
        (2 : ℚ) ^ (((n / 2 ^ 23 % 256 : Nat) : ℤ) - 150) := by
  subst h; rfl

theorem value_zero : f32Value 0x00000000 = 0 := by rw [value_eq 0x00000000 rfl]; norm_num
theorem value_one : f32Value 0x3F800000 = 1 := by rw [value_eq 0x3F800000 rfl]; norm_num
theorem value_minus_one : f32Value 0xBF800000 = -1 := by rw [value_eq 0xBF800000 rfl]; norm_num
theorem value_fifty : f32Value 0x42480000 = 50 := by rw [value_eq 0x42480000 rfl]; norm_num
theorem value_hundred : f32Value 0x42C80000 = 100 := by rw [value_eq 0x42C80000 rfl]; norm_num
theorem value_hundred_fifty : f32Value 0x43160000 = 150 := by rw [value_eq 0x43160000 rfl]; norm_num
/-- The smallest subnormal below zero (spec/95_test_vectors.md 2.1). -/
theorem value_least_negative : f32Value 0x80000001 = -(2 : ℚ) ^ (-149 : ℤ) := by rw [value_eq 0x80000001 rfl]; norm_num
/-- R79: the pattern of 65535 * 65536. -/
theorem value_bound : f32Value 0x4F7FFF00 = 4294901760 := by rw [value_eq 0x4F7FFF00 rfl]; norm_num
/-- R79: the largest pattern below it. -/
theorem value_below_bound : f32Value 0x4F7FFEFF = 4294901504 := by rw [value_eq 0x4F7FFEFF rfl]; norm_num

/-- A bound block with CH1 and a period, the state of most witnesses. -/
abbrev ready : State := onBlock 1 true 1000 1000000

theorem accepted_of_value {d : Word} {v : ℚ} (hf : IsFinite d) (h : f32Value d = v) (hv : 0 ≤ v) : DutyAccepted d :=
  .inr ⟨hf, h ▸ hv⟩

theorem accepted_zero : DutyAccepted 0x00000000 := accepted_of_value (by decide) value_zero le_rfl
theorem accepted_fifty : DutyAccepted 0x42480000 := accepted_of_value (by decide) value_fifty (by norm_num)
theorem accepted_hundred : DutyAccepted 0x42C80000 := accepted_of_value (by decide) value_hundred (by norm_num)
theorem accepted_infinity : DutyAccepted 0x7F800000 := .inl (by decide)

theorem percent_fifty : dutyPercent 0x42480000 = 50 := by
  rw [dutyPercent, if_neg (by decide), value_fifty]; norm_num
theorem percent_infinity : dutyPercent 0x7F800000 = 100 := by rw [dutyPercent, if_pos (by decide)]

/-- At 1 MHz the ticks of a period are its microseconds. -/
theorem ticks_at_megahertz (us : Word) : periodTicks 1000000 us = f32Value us := by
  have h : ((1000000 : Word).toNat : ℚ) = 1000000 := by
    have : (1000000 : Word).toNat = 1000000 := rfl
    rw [this]; norm_num
  rw [periodTicks, h]; ring

theorem ready_busclk : ready.tr.busclk = 1000000 := rfl

theorem witness_DecodeAndEncodeAreInverse :
    (Instr.reservedCToF 12 0xFFFFFFFF).wellFormed = true ∧ (Instr.reservedCToF 15 0).wellFormed = true ∧
      (Instr.setPsr 0xFFFF 0xFFFF).wellFormed = true := by decide

theorem witness_EachWordHasItsOneTableRow :
    ⟨"INIT", 0x100000000, 0xF00000000⟩ ∈ opcodeTable ∧ ⟨"RESERVED_C_TO_F", 0xC00000000, 0xC00000000⟩ ∈ opcodeTable := by
  decide

theorem witness_IgnoredOperandBitsChangeNothing :
    (CmdWord.op 0x1DEADBEEF = CmdWord.op 0x100000000 ∧
      CmdWord.op 0x1DEADBEEF ∈ [0x0#4, 0x1#4, 0x8#4, 0x9#4, 0xA#4, 0xB#4, 0xC#4, 0xD#4, 0xE#4, 0xF#4]) ∧
    (CmdWord.op 0x700010047 = CmdWord.op 0x700000047 ∧ CmdWord.op 0x700010047 = 0x7#4 ∧
      (0x700010047 : CmdWord).toNat % 2 ^ 16 = (0x700000047 : CmdWord).toNat % 2 ^ 16) := by decide

theorem witness_ResponseWordRoundTrip :
    responseOfWord 0x4FFFFFFFF = some ⟨.failed .hardwareOperationFailed, 0xFFFFFFFF⟩ ∧
      5 * 2 ^ 32 ≤ (0x500000000 : RspWord).toNat := by decide

theorem witness_FloatOperandValueIsExact :
    IsNaN 0x7F800001 ∧ IsNaN 0xFFC00000 ∧ IsPosInf 0x7F800000 ∧ IsNegInf 0xFF800000 ∧ IsFinite 0x7F7FFFFF ∧
      IsFinite 0x80000001 ∧ IsFinite 0x00800000 := by decide

theorem witness_DecimalOfFinitePatternAssemblesBack :
    (IsFinite 0x42C80000 ∧ (0 : Nat) < 1 ∧ |f32Value 0x42C80000| = ((100 : Nat) : ℚ) / (1 : Nat)) ∧
    (IsFinite 0x80000001 ∧ 0 < 2 ^ 149 ∧ |f32Value 0x80000001| = ((1 : Nat) : ℚ) / (2 ^ 149 : Nat)) := by
  rw [value_hundred, value_least_negative]
  refine ⟨⟨by decide, by decide, by norm_num⟩, by decide, by decide, by norm_num⟩

theorem witness_StepRunsTheDecodedCommand :
    ((twoBlocks [.command 0 0x100000000]).present = true ∧ (twoBlocks [.command 0 0x100000000]).blk.port = 0 ∧
      (Instr.init 0).wellFormed = true ∧ 0x100000000 = encode (.init 0)) ∧
    ((twoBlocks [.command 1 0x100000000]).blockAt 1 = some ⟨1, { referenceStraps with ch := 2 }, true, 2⟩) ∧
    (∀ b ∈ (twoBlocks [.command 2 0x100000000]).blocks, b.port ≠ 2) := by
  decide

theorem witness_PlacedWordRunsNext :
    decodeTableWord 40 0x1DEADBEEF = some (.init 0xDEADBEEF) ∧ decodeTableWord 36 0xFFFFFFFFF =
      some (.reservedCToF 15 0xFFFFFFFF) := by decide

theorem witness_HostEventsHaveTheirEffect :
    (twoBlocks [.resetBlock 0]).present = true ∧ (twoBlocks [.resetBlock 0]).queue = .resetBlock (twoBlocks [.resetBlock 0]).blk.port :: [] ∧
      (twoBlocks [.busClock 0]).queue = .busClock 0 :: [] ∧ (twoBlocks []).queue = [] := by decide

theorem witness_BlockResetLosesOnlyItsBinding :
    (twoBlocks [.resetBlock 1]).Inv ∧ (twoBlocks [.resetBlock 1]).queue = .resetBlock 1 :: [] ∧
      (twoBlocks [.resetBlock 1]).blockAt 1 = some ⟨1, { referenceStraps with ch := 2 }, true, 2⟩ ∧ 0 ≠ 1 := by
  decide

theorem witness_BuildAndRemoveTouchNoRegister :
    ((twoBlocks [.buildBlock 2 referenceStraps]).Inv ∧ (twoBlocks [.buildBlock 2 referenceStraps]).blockAt 2 = none ∧
      (twoBlocks [.buildBlock 1 referenceStraps]).blockAt 1 ≠ none) ∧
    ((twoBlocks [.removeBlock 0]).Inv ∧ (twoBlocks [.removeBlock 0]).blockAt 0 ≠ none ∧
      (twoBlocks [.removeBlock 2]).blockAt 2 = none) ∧
    (ready.Inv ∧ ready.blockAt 0 ≠ none ∧ ready.others = []) ∧ 1 ≠ 2 ∧ 1 ≠ 0 := by decide

theorem witness_GetTimAnswersTheHandle : CmdWord.op 0xADEADBEEF = 0xA#4 := by decide

theorem witness_SetDutyWritesTheExactFloor :
    (DutyAccepted 0x42480000 ∧ DutyAccepted 0x7F800000 ∧ DutyAccepted 0x00000000) ∧ ready.tr.regs.arr ≠ 0 ∧
      ready.blk.bindValid = true ∧ ready.tr.channel ready.blk.bindSlot = some .ch1 :=
  ⟨⟨accepted_fifty, accepted_infinity, accepted_zero⟩, by decide⟩

theorem witness_SetDutyRejectsBelowZero :
    IsNaN 0x7FC00000 ∧ IsNegInf 0xFF800000 ∧ (IsFinite 0x80000001 ∧ f32Value 0x80000001 < 0) :=
  ⟨by decide, by decide, by decide, by rw [value_least_negative]; norm_num⟩

theorem witness_SetDutyAboveHundredActsAsHundred :
    IsPosInf 0x7F800000 ∧ (IsFinite 0x43160000 ∧ 100 < f32Value 0x43160000) ∧
      (ready.tr.regs.arr ≠ 0 ∧ ready.blk.bindValid = true ∧ ready.tr.channel ready.blk.bindSlot = some .ch1) :=
  ⟨by decide, ⟨by decide, by rw [value_hundred_fifty]; norm_num⟩, by decide⟩

theorem witness_SetDutyWithoutPeriodFails :
    DutyAccepted 0x42480000 ∧ (onBlock 1 true 0 0).tr.regs.arr = 0 ∧ (onBlock 1 false 0 0).tr.regs.arr = 0 :=
  ⟨accepted_fifty, by decide⟩

theorem witness_SetDutyWithoutBindingFails :
    DutyAccepted 0x42480000 ∧ (onBlock 1 false 100 0).tr.regs.arr ≠ 0 ∧ (onBlock 1 false 100 0).blk.bindValid = false :=
  ⟨accepted_fifty, by decide⟩

theorem witness_SetDutyCompareValueBounds :
    (DutyAccepted 0x42C80000 ∧ DutyAccepted 0x00000000) ∧ ready.tr.regs.arr ≠ 0 ∧ ready.blk.bindValid = true ∧
      ready.tr.channel ready.blk.bindSlot = some .ch1 :=
  ⟨⟨accepted_hundred, accepted_zero⟩, by decide⟩

theorem witness_SetDutyIsMonotone :
    DutyAccepted 0x42480000 ∧ DutyAccepted 0x7F800000 ∧ dutyPercent 0x42480000 ≤ dutyPercent 0x7F800000 ∧
      ready.tr.regs.arr ≠ 0 ∧ ready.blk.bindValid = true ∧ ready.tr.channel ready.blk.bindSlot = some .ch1 :=
  ⟨accepted_fifty, accepted_infinity, by rw [percent_fifty, percent_infinity]; norm_num, by decide⟩

theorem witness_SetDutyOfIntegerPercent :
    (IsFinite 0x42C80000 ∧ f32Value 0x42C80000 = (100 : Nat)) ∧ 100 ≤ 100 ∧ 0 < 10 ∧
      ready.tr.regs.arr.toNat = 100 * 10 ∧ ready.blk.bindValid = true ∧
      ready.tr.channel ready.blk.bindSlot = some .ch1 :=
  ⟨⟨by decide, by rw [value_hundred]; norm_num⟩, by decide⟩

theorem witness_SetAutoFreqSurfacesTheResult : CmdWord.op 0x3C0A00000 = 0x3#4 := by decide

/-- X = 1, the least that resolves, and X = 4294901504, the largest binary32 value below the bound (R79). -/
theorem witness_SetAutoPwProgramsTheLeastPrescaler :
    (IsFinite 0x3F800000 ∧ 1 ≤ periodTicks ready.tr.busclk 0x3F800000 ∧
      periodTicks ready.tr.busclk 0x3F800000 < 65535 * 65536) ∧
    (IsFinite 0x4F7FFEFF ∧ 1 ≤ periodTicks ready.tr.busclk 0x4F7FFEFF ∧
      periodTicks ready.tr.busclk 0x4F7FFEFF < 65535 * 65536) ∧ ready.channel = some .ch1 := by
  rw [ready_busclk, ticks_at_megahertz, ticks_at_megahertz, value_one, value_below_bound]
  exact ⟨⟨by decide, by norm_num, by norm_num⟩, ⟨by decide, by norm_num, by norm_num⟩, rfl⟩

theorem witness_SetAutoPwBelowResolutionIsInvalid :
    IsNaN 0x7FC00000 ∧ IsNegInf 0xFF800000 ∧ (onBlock 1 true 9 0).tr.busclk = 0 ∧
      (IsFinite 0xBF800000 ∧ ready.tr.busclk.toNat * f32Value 0xBF800000 < 1000000) :=
  ⟨by decide, by decide, rfl, by decide, by
    have h : (0 : ℚ) ≤ ready.tr.busclk.toNat := Nat.cast_nonneg _
    rw [value_minus_one]; linarith⟩

theorem witness_SetAutoPwTooLongIsUnattainable :
    ready.tr.busclk ≠ 0 ∧ IsPosInf 0x7F800000 ∧
      (IsFinite 0x4F7FFF00 ∧ 4294901760 ≤ periodTicks ready.tr.busclk 0x4F7FFF00) :=
  ⟨by decide, by decide, by decide, by rw [ready_busclk, ticks_at_megahertz, value_bound]⟩

theorem witness_SetAutoPwUnsupportedChannelFails :
    IsFinite 0x42C80000 ∧ 1 ≤ periodTicks (onBlock 5 false 9 1000000).tr.busclk 0x42C80000 ∧
      periodTicks (onBlock 5 false 9 1000000).tr.busclk 0x42C80000 < 4294901760 ∧
      (onBlock 5 false 9 1000000).channel = none := by
  have h : (onBlock 5 false 9 1000000).tr.busclk = 1000000 := rfl
  rw [h, ticks_at_megahertz, value_hundred]
  exact ⟨by decide, by norm_num, by norm_num, rfl⟩

theorem witness_SetAutoPwFailureWritesNothing :
    exec (.setAutoPw 0x00000000) ready = .next { ready with replies := ready.answered (.failed .invalidParameter) 0 } ∧
      Result.failed .invalidParameter ≠ .ok := ⟨rfl, by decide⟩

/-- S1, with a register 0 for the prescaler, and the row 65536 of spec/95_test_vectors.md 2.4, with a register 1. -/
theorem witness_SetAutoPwWritesWithinItsRanges :
    (∃ t, exec (.setAutoPw 0x42C80000) ready = .next t ∧ t.replies = ready.answered .ok 0 ∧ ready.channel = some .ch1) ∧
      ∃ t, exec (.setAutoPw 0x47800000) ready = .next t ∧ t.replies = ready.answered .ok 0 ∧
        ready.channel = some .ch1 ∧ t.tr.regs.psc ≠ 0 :=
  ⟨⟨_, rfl, rfl, rfl⟩, _, rfl, rfl, rfl, by decide⟩

theorem witness_HalfDutyAfterAutoPwChangesNothing :
    (∃ t, exec (.setAutoPw 0x42C80000) ready = .next t ∧ t.replies = ready.answered .ok 0) ∧
      ready.blk.bindValid = true ∧ ready.blk.bindSlot = ready.blk.straps.ch :=
  ⟨⟨_, rfl, rfl⟩, rfl, rfl⟩

theorem witness_SetAutoPwDependsOnTheProductOnly :
    IsFinite 0x3F800000 ∧ IsFinite 0x42C80000 ∧ 1 ≤ periodTicks ready.tr.busclk 0x3F800000 ∧
      periodTicks ready.tr.busclk 0x3F800000 ≤ periodTicks 1000000 0x42C80000 ∧
      periodTicks 1000000 0x42C80000 < 4294901760 ∧ ready.channel = some .ch1 ∧
      periodTicks ready.tr.busclk 0x3F800000 = periodTicks 1000000 0x3F800000 := by
  simp only [ready_busclk, ticks_at_megahertz, value_one, value_hundred]
  exact ⟨by decide, by decide, by norm_num, by norm_num, by norm_num, rfl, trivial⟩

theorem witness_SetArrStoresTheReloadValue :
    CmdWord.op 0x5000003E7 = 0x5#4 ∧
      ∃ t, exec (.setArr 0) ready = .next t := ⟨by decide, _, rfl⟩

theorem witness_SetCcrStoresTheOwnCompareValue :
    CmdWord.op 0x6000000FA = 0x6#4 ∧ (onBlock 2 false 0 0).channel = some .ch2 ∧
      (onBlock 5 false 0 0).channel = none ∧ (onBlock 0 false 0 0).channel = none ∧
      (onBlock 7 false 0 0).channel = none := by decide

theorem witness_SetPsrStoresTheLowHalf : CmdWord.op 0x70000FFFF = 0x7#4 := by decide

theorem witness_RawCommandsAnswerAndTouchNoMore : (onBlock 2 false 0 0).channel = some .ch2 := by decide

theorem witness_EnableStartsTheChannel : (onBlock 1 false 0 0).channel = some .ch1 := by decide

theorem witness_DisableStopsTheChannel : (onBlock 4 false 0 0).channel = some .ch4 := by decide

theorem witness_EnableDisableUnsupportedChannelFails : (onBlock 5 false 0 0).channel = none := by decide

theorem witness_EnableTwiceIsEnableOnce : (onBlock 1 true 0 0).channel = some .ch1 := by decide

theorem witness_ReservedOpcodesAnswerInvalid :
    CmdWord.op 0x0FFFFFFFF = 0x0#4 ∧ 0xB ≤ (CmdWord.op 0xB00000000).toNat ∧ 0xB ≤ (CmdWord.op 0xFFFFFFFFF).toNat ∧
      decode 0x000000000 = .reserved0 0 ∧ decode 0xB00000000 = .reservedB 0 ∧
      decode 0xC00000000 = .reservedCToF 12 0 := by decide

theorem witness_CommandsNeverStopUnderInvariant : (twoBlocks []).Inv ∧ ready.Inv := by decide

theorem witness_EveryCommandGivesOneAllowedResponse :
    (∃ t, exec (.setArr 5) ready = .next t) ∧ (∀ a, Instr.setArr 5 ≠ .getTim a) ∧
      Result.failed .invalidParameter ≠ .ok := ⟨⟨_, rfl⟩, by simp, by decide⟩

theorem witness_CommandsWriteOnlyTheirState :
    ready.blk.BindingOk ready.tr ∧ (∃ t, exec (.setCcr 5) ready = .next t) ∧
      (Instr.setCcr 5).mayWrite = ⟨false, false, false, true, false, false, false, false⟩ ∧
      (Instr.setArr 5).mayWrite.ownCcr = false ∧
      Channel.ofCode ready.blk.straps.ch = some .ch1 ∧ Channel.ofCode ready.blk.straps.ch ≠ some .ch2 :=
  ⟨by decide, ⟨_, rfl⟩, by decide⟩

/-- A failed SET_AUTO_PW, a failed INIT (a channel outside `SUPP`, whatever the timer resource's own `Init()` answers), a failed
ENABLE and DISABLE, and a channel for which start and stop are called. -/
theorem witness_FailuresLeaveNoTrace :
    ready.blk.BindingOk ready.tr ∧ (onBlock 5 false 0 0).blk.BindingOk (onBlock 5 false 0 0).tr ∧
    (∃ t, exec (.setAutoPw 0) ready = .next t ∧ t.replies = ready.answered (.failed .invalidParameter) 0 ∧
      (Instr.setAutoPw 0).callsOpenRoutine = false) ∧
    (∃ t why, exec (.init 0) (onBlock 5 false 0 0) = .next t ∧
      t.replies = (onBlock 5 false 0 0).answered (.failed why) 0) ∧
    (∃ t, exec (.enable 0) (onBlock 5 false 0 0) = .next t ∧
      t.replies = (onBlock 5 false 0 0).answered (.failed .unsupportedChannel) 0 ∧
      (onBlock 5 false 0 0).channel = none) ∧
    ready.channel = some .ch1 := by
  refine ⟨by decide, by decide, ⟨_, rfl, rfl, rfl⟩, ?_, ⟨_, rfl, rfl, rfl⟩, rfl⟩
  by_cases h : (onBlock 5 false 0 0).callInit.1 = .ok
  · refine ⟨_, .unsupportedChannel, rfl, ?_⟩
    have hc : (onBlock 5 false 0 0).callInit.2.channel = none := by rw [State.callInit_channel]; rfl
    rw [if_pos h, State.resolveBinding, hc]; rfl
  · exact ⟨_, .hardwareOperationFailed, rfl, by rw [if_neg h]; rfl⟩

theorem witness_OnlySetDutyUsesTheBinding : (Instr.init 0).usesBinding = false ∧ (Instr.setCcr 0).usesBinding = false := by
  decide

theorem witness_InvariantHoldsAtLaunch :
    (((0, referenceStraps) :: [(1, { referenceStraps with ch := 2 })] : List (Nat × Straps)).map (·.1)).Nodup := by decide

theorem witness_StepKeepsTheInvariant :
    (twoBlocks [.command 1 0x5000003E7]).Inv ∧ ∃ t, step (twoBlocks [.command 1 0x5000003E7]) = .next t :=
  ⟨by decide, _, rfl⟩

theorem witness_StepKeepsStrapsAndOtherBlocks :
    (twoBlocks [.command 1 0x5000003E7]).Inv ∧ (∃ t, step (twoBlocks [.command 1 0x5000003E7]) = .next t) ∧ 0 ≠ 1 ∧
      (∃ w, (twoBlocks [.command 1 0x5000003E7]).queue = .command 1 w :: []) ∧
      (twoBlocks [.resetBlock 1]).Inv ∧ (∃ t, step (twoBlocks [.resetBlock 1]) = .next t) ∧
      (twoBlocks [.resetBlock 1]).queue = .resetBlock 1 :: [] ∧
      (twoBlocks [.removeBlock 1]).Inv ∧ (∃ t, step (twoBlocks [.removeBlock 1]) = .next t) ∧
      (twoBlocks [.buildBlock 2 referenceStraps]).Inv ∧ (∃ t, step (twoBlocks [.buildBlock 2 referenceStraps]) = .next t) ∧
      (∃ b c, (twoBlocks [.removeBlock 1]).blockAt 0 = some b ∧ (twoBlocks []).blockAt 0 = some c) :=
  ⟨by decide, ⟨_, rfl⟩, by decide, ⟨_, rfl⟩, by decide, ⟨_, rfl⟩, rfl, by decide, ⟨_, rfl⟩, by decide, ⟨_, rfl⟩,
    ⟨_, _, rfl, rfl⟩⟩

/-- SET_ARR and SET_AUTO_PW by CH1, then SET_DUTY by CH2, and SET_ARR and SET_DUTY by the same block; a period of 0 too. -/
theorem witness_ReloadValueIsSharedBetweenBlocks :
    ((twoBlocks [.command 0 0x5000003E7, .command 1 0x242480000]).Inv ∧
      (twoBlocks [.command 0 0x5000003E7, .command 1 0x242480000]).queue =
        .command 0 (encode (.setArr 999)) :: .command 1 (encode (.setDuty 0x42480000)) :: []) ∧
    ((twoBlocks []).blockAt 0 = some ⟨0, referenceStraps, true, 1⟩ ∧
      (twoBlocks []).blockAt 1 = some ⟨1, { referenceStraps with ch := 2 }, true, 2⟩ ∧
      Channel.ofCode 2 = some .ch2 ∧ Channel.ofCode 1 = some .ch1) ∧
    DutyAccepted 0x42480000 ∧ searchResolve (twoBlocks []).tr.busclk 0x42C80000 = .found 1 100 ∧
      (twoBlocks []).tr.channel 1 ≠ none ∧
    (∃ t, step (twoBlocks [.command 1 0x5000003E7]) = .next t ∧ t.tr.regs.arr ≠ 0) ∧
      ∃ t, step (twoBlocks [.command 1 0x500000000]) = .next t ∧ t.tr.regs.arr = 0 := by
  have h : (twoBlocks []).tr.busclk = 1000000 := rfl
  have hx : ((1000000 : Word).toNat : ℚ) = 1000000 := by
    have : (1000000 : Word).toNat = 1000000 := rfl
    rw [this]; norm_num
  refine ⟨by decide, by decide, accepted_fifty, ?_, by decide, ⟨_, rfl, by decide⟩, _, rfl, by decide⟩
  rw [searchResolve, h, if_neg (by decide), if_neg (by decide), hx, value_hundred, if_neg (by norm_num),
    ticks_at_megahertz, value_hundred]
  have hs : ascendingSearch 100 (65534 + 1) 1 = some 1 := by rw [ascendingSearch, if_pos (by norm_num)]
  rw [hs]
  norm_num
  rfl

/-- A tie (2 ^ 24 + 1, halfway between two patterns), the pattern nearest to 33.3, and the overflow point. -/
theorem witness_DecimalAssemblesToTheNearestPattern :
    (0 < 1 ∧ ((2 ^ 24 + 1 : Nat) : ℚ) / (1 : Nat) < 2 ^ 128 - 2 ^ 103 ∧
      (FloatLit.decimal false (2 ^ 24 + 1) 1).bits = 0x4B800000 ∧ IsFinite 0x4B800001) ∧
    (0 < 10 ∧ ((333 : Nat) : ℚ) / (10 : Nat) < 2 ^ 128 - 2 ^ 103 ∧ (FloatLit.decimal false 333 10).bits = 0x42053333) ∧
    (2 : ℚ) ^ 128 - 2 ^ 103 ≤ ((2 ^ 128 - 2 ^ 103 : Nat) : ℚ) / (1 : Nat) := by
  refine ⟨⟨by decide, by norm_num, by decide +kernel, by decide⟩, ⟨by decide, by norm_num, by decide +kernel⟩, by norm_num⟩

theorem witness_CommandListsRunToTheirEnd :
    (twoBlocks [.command 1 0x5000003E7, .command 0 0xF00000000]).Inv ∧
      (twoBlocks [.command 1 0x5000003E7, .command 0 0xF00000000]).queue =
        [(1, 0x5000003E7), (0, 0xF00000000)].map (fun c : Nat × CmdWord => HostEvent.command c.1 c.2) ∧
      (∀ c ∈ ([(1, 0x5000003E7), (0, 0xF00000000)] : List (Nat × CmdWord)),
        ∃ b ∈ (twoBlocks []).blocks, b.port = c.1) := by decide

end Sys2Proof.Tests
end

/-! # What an event can do to the state

The rules for the register writes and the other shared operations, what each command may write (R37), what the choice
of the addressed block and the host's events leave unchanged, and from these the invariant of R21. -/

namespace Sys2Proof.Machine

open Sys2Proof

/-! ### What a command may write (R37) -/

/-- The column of R37's table for the compare register of channel `k`, given the block's own channel. -/
def ccrColumn (w : WriteSet) (own : Option Channel) (k : Channel) : Bool :=
  if own = some k then w.ownCcr else w.otherCcr

/-- The column of R37's table for the enable bit of channel `k`, given the block's own channel. -/
def enColumn (w : WriteSet) (own : Option Channel) (k : Channel) : Bool :=
  if own = some k then w.ownEn else w.otherEn

/-- The registers `g` became `g'` within the columns of `w`. -/
structure RegsWithin (w : WriteSet) (own : Option Channel) (g g' : TimerRegs) : Prop where
  psc : w.psc = false → g'.psc = g.psc
  arr : w.arr = false → g'.arr = g.arr
  other : w.other = false → g'.other = g.other
  ccr : ∀ k, ccrColumn w own k = false → g'.ccr.get k = g.ccr.get k
  en : ∀ k, enColumn w own k = false → g'.en.get k = g.en.get k

/-- The state `s` became `t` within the columns of `w`, and what no command writes stayed as it was (R37). -/
structure WritesWithin (w : WriteSet) (own : Option Channel) (s t : State) : Prop where
  others : t.others = s.others
  present : t.present = s.present
  queue : t.queue = s.queue
  busclk : t.tr.busclk = s.tr.busclk
  supp : t.tr.supp = s.tr.supp
  straps : t.blk.straps = s.blk.straps
  port : t.blk.port = s.blk.port
  binding : w.binding = false → t.blk = s.blk
  regs : RegsWithin w own s.tr.regs t.tr.regs

section Rules

variable {w : WriteSet} {own : Option Channel} {s t : State} {g : TimerRegs} {k : Channel}

theorem RegsWithin.refl : RegsWithin w own g g :=
  ⟨fun _ => rfl, fun _ => rfl, fun _ => rfl, fun _ _ => rfl, fun _ _ => rfl⟩

theorem WritesWithin.refl : WritesWithin w own s s :=
  ⟨rfl, rfl, rfl, rfl, rfl, rfl, rfl, fun _ => rfl, .refl⟩

theorem WritesWithin.respond (h : WritesWithin w own s t) (r : Result) (d : Word) :
    WritesWithin w own s (t.respond r d) := { h with }

/-- The counter of draws is the model's own and has no column. -/
theorem WritesWithin.withDraws (h : WritesWithin w own s t) (n : Nat) :
    WritesWithin w own s { t with draws := n } := { h with }

/-- Register writes need only be judged by the registers. -/
theorem WritesWithin.withRegs (h : WritesWithin w own s t) (hg : RegsWithin w own s.tr.regs g) :
    WritesWithin w own s (t.withRegs g) := { h with regs := hg }

theorem WritesWithin.writePsc (h : WritesWithin w own s t) (hw : w.psc = true) (v : Half) :
    WritesWithin w own s (t.writePsc v) :=
  h.withRegs { h.regs with psc := by simp [hw] }

theorem WritesWithin.writeArr (h : WritesWithin w own s t) (hw : w.arr = true) (v : Word) :
    WritesWithin w own s (t.writeArr v) :=
  h.withRegs { h.regs with arr := by simp [hw] }

/-- With the own column marked, an unmarked one belongs to another channel. -/
theorem ne_own_of_ccrColumn (hw : w.ownCcr = true) (hk : own = some k) {j : Channel}
    (hj : ccrColumn w own j = false) : j ≠ k := by
  rintro rfl
  simp [ccrColumn, hk, hw] at hj

theorem ne_own_of_enColumn (hw : w.ownEn = true) (hk : own = some k) {j : Channel}
    (hj : enColumn w own j = false) : j ≠ k := by
  rintro rfl
  simp [enColumn, hk, hw] at hj

theorem WritesWithin.writeCcr (h : WritesWithin w own s t) (hw : w.ownCcr = true) (hk : own = some k) (v : Word) :
    WritesWithin w own s (t.writeCcr k v) :=
  h.withRegs { h.regs with
    ccr := fun j hj => (PerChannel.get_set_ne _ (ne_own_of_ccrColumn hw hk hj) v).trans (h.regs.ccr j hj) }

theorem WritesWithin.writeEn (h : WritesWithin w own s t) (hw : w.ownEn = true) (hk : own = some k) (v : Bool) :
    WritesWithin w own s (t.writeEn k v) :=
  h.withRegs { h.regs with
    en := fun j hj => (PerChannel.get_set_ne _ (ne_own_of_enColumn hw hk hj) v).trans (h.regs.en j hj) }

theorem WritesWithin.bind (h : WritesWithin w own s t) (hw : w.binding = true) : WritesWithin w own s t.bind :=
  { h with binding := by simp [hw] }

theorem WritesWithin.unbind (h : WritesWithin w own s t) (hw : w.binding = true) : WritesWithin w own s t.unbind :=
  { h with binding := by simp [hw] }

/-- The rows of INIT and SET_AUTO_FREQ have every register marked: any registers are within them. -/
theorem RegsWithin.of_all_marked (binding : Bool) (g g' : TimerRegs) :
    RegsWithin ⟨binding, true, true, true, true, true, true, true⟩ own g g' := by
  constructor <;> simp [ccrColumn, enColumn]

end Rules

/-! ### The meanings stay within their row of R37's table -/

/-- What INIT leaves: the registers as `TR_INIT` left them, and the binding as it was, gone, or the block's channel (R100). -/
theorem execInit_cases (a : Word) (s : State) :
    ∃ g, execInit a s = .next ((s.withRegs g).raise .hardwareOperationFailed) ∨
      (s.channel = none ∧ execInit a s = .next ((s.withRegs g).unbind.raise .unsupportedChannel)) ∨
      (s.channel.isSome = true ∧ execInit a s = .next (s.withRegs g).bind.returnOk) := by
  obtain ⟨g, hg⟩ := s.tr.init_eq_withRegs
  have hu : s.callInit.2 = s.withRegs g := by rw [State.callInit, hg, State.withRegs]
  refine ⟨g, ?_⟩
  simp only [execInit, State.resolveBinding, State.callInit_channel, ← hu]
  split_ifs
  · cases hk : s.channel with
    | none => exact .inr (.inl ⟨rfl, rfl⟩)
    | some k => exact .inr (.inr ⟨rfl, rfl⟩)
  · exact .inl rfl

/-- ENABLE either failed on its channel, or made one start call and answered what it came to. -/
theorem execEnable_cases (a : Word) (s : State) :
    (s.channel = none ∧ execEnable a s = .next (s.raise .unsupportedChannel)) ∨
      ∃ k, s.channel = some k ∧ execEnable a s = .next (startStopAnswer (s.callStart k)) := by
  unfold execEnable
  cases s.channel with
  | none => exact .inl ⟨rfl, rfl⟩
  | some k => exact .inr ⟨k, rfl, rfl⟩

/-- DISABLE either failed on its channel, or made one stop call and answered what it came to. -/
theorem execDisable_cases (a : Word) (s : State) :
    (s.channel = none ∧ execDisable a s = .next (s.raise .unsupportedChannel)) ∨
      ∃ k, s.channel = some k ∧ execDisable a s = .next (startStopAnswer (s.callStop k)) := by
  unfold execDisable
  cases s.channel with
  | none => exact .inl ⟨rfl, rfl⟩
  | some k => exact .inr ⟨k, rfl, rfl⟩

/-- A start or stop call and its answer touch the own enable bit only. -/
theorem WritesWithin.startStopAnswer {w : WriteSet} {own : Option Channel} {s : State} {k : Channel}
    (hw : w.ownEn = true) (hk : own = some k) (v : Bool) :
    WritesWithin w own s (startStopAnswer (s.callStartStop k v)) := by
  have h : WritesWithin w own s (s.callStartStop k v).2 := (WritesWithin.refl.writeEn hw hk _).withDraws _
  unfold Machine.startStopAnswer
  split_ifs
  · exact h.respond _ _
  · exact h.respond _ _

/-- R37: a command of a block whose binding meets R21 writes only the state of its row. -/
theorem exec_writesWithin {i : Instr} {s t : State} (hb : s.blk.BindingOk s.tr) (h : exec i s = .next t) :
    WritesWithin i.mayWrite (Channel.ofCode s.blk.straps.ch) s t := by
  have own {k : Channel} (hk : s.channel = some k) : Channel.ofCode s.blk.straps.ch = some k :=
    (State.channel_eq_some.1 hk).1
  have raised (f : Failure) : WritesWithin i.mayWrite (Channel.ofCode s.blk.straps.ch) s (s.raise f) :=
    WritesWithin.refl.respond _ _
  cases i with
  | init a =>
    obtain ⟨g, hr⟩ := execInit_cases a s
    have hu : WritesWithin (Instr.init a).mayWrite (Channel.ofCode s.blk.straps.ch) s (s.withRegs g) :=
      WritesWithin.refl.withRegs (.of_all_marked _ _ _)
    rcases hr with e | ⟨-, e⟩ | ⟨-, e⟩ <;> cases e.symm.trans h
    · exact hu.respond _ _
    · exact (hu.unbind rfl).respond _ _
    · exact (hu.bind rfl).respond _ _
  | setDuty d =>
    obtain ⟨f, -, rfl⟩ | ⟨k, hv, hk, rfl⟩ := execSetDuty_eq_next h
    · exact raised f
    · obtain ⟨hslot, -⟩ := hb hv
      rw [hslot] at hk
      exact (WritesWithin.refl.writeCcr rfl (own hk) _).respond _ _
  | setAutoFreq hz =>
    cases h
    exact ((WritesWithin.refl.withRegs (.of_all_marked _ _ _)).withDraws _).respond _ _
  | setAutoPw us =>
    obtain ⟨f, e⟩ | ⟨k, psc, arr, hk, -, e⟩ := execSetAutoPw_cases us s <;> cases e.symm.trans h
    · exact raised f
    · exact (((WritesWithin.refl.writePsc rfl _).writeArr rfl _).writeCcr rfl (own hk) _).respond _ _
  | setArr v => cases h; exact (WritesWithin.refl.writeArr rfl v).respond _ _
  | setCcr v =>
    obtain ⟨-, e⟩ | ⟨k, hk, e⟩ := execSetCcr_cases v s <;> cases e.symm.trans h
    · exact raised _
    · exact (WritesWithin.refl.writeCcr rfl (own hk) v).respond _ _
  | setPsr hi v => cases h; exact (WritesWithin.refl.writePsc rfl v).respond _ _
  | enable a =>
    obtain ⟨-, e⟩ | ⟨k, hk, e⟩ := execEnable_cases a s <;> cases e.symm.trans h
    · exact raised _
    · exact .startStopAnswer rfl (own hk) true
  | disable a =>
    obtain ⟨-, e⟩ | ⟨k, hk, e⟩ := execDisable_cases a s <;> cases e.symm.trans h
    · exact raised _
    · exact .startStopAnswer rfl (own hk) false
  | getTim a => cases h; exact WritesWithin.refl.respond _ _
  | reserved0 a => cases h; exact raised _
  | reservedB a => cases h; exact raised _
  | reservedCToF op a => cases h; exact raised _

/-- Settles O49: every command is within its row of R37's table (`exec_writesWithin`); the four clauses for a channel are
the two columns of that channel, read for the own channel and for another. -/
theorem commandsWriteOnlyTheirState : Obligations.CommandsWriteOnlyTheirState := by
  intro i s t hb h
  obtain ⟨ho, hp, hq, hc, hsupp, hstraps, hport, hbind, hregs⟩ := exec_writesWithin hb h
  refine ⟨ho, hp, hq, hc, hsupp, hstraps, hport, hbind, hregs.psc, hregs.arr, hregs.other, fun k => ⟨?_, ?_, ?_, ?_⟩⟩
  · exact fun hw hk => hregs.ccr k (by simp [ccrColumn, hk, hw])
  · exact fun hw hk => hregs.ccr k (by simp [ccrColumn, hk, hw])
  · exact fun hw hk => hregs.en k (by simp [enColumn, hk, hw])
  · exact fun hw hk => hregs.en k (by simp [enColumn, hk, hw])

/-! ### The block of a port -/

/-- Where no two blocks answer to one port, the block of a port is the one that has it. -/
theorem State.blockAt_eq_some_iff {s : State} (hn : (s.blocks.map (·.port)).Nodup) {p : Nat} {b : Block} :
    s.blockAt p = some b ↔ b ∈ s.blocks ∧ b.port = p := by
  refine ⟨State.blockAt_eq_some, fun ⟨hm, hp⟩ => ?_⟩
  cases hc : s.blockAt p with
  | none => exact absurd hp (State.blockAt_eq_none.1 hc b hm)
  | some c =>
    obtain ⟨hcm, hcp⟩ := State.blockAt_eq_some hc
    rw [List.inj_on_of_nodup_map hn hcm hm (hcp.trans hp.symm)]

theorem State.blockAt_front {s : State} (h : s.present = true) : s.blockAt s.blk.port = some s.blk := by
  simp [State.blockAt, State.blocks_of_present h]

/-- On a port that is not the front block's, the block is found among the others. -/
theorem State.blockAt_of_ne_front {s : State} {p : Nat} (h : p ≠ s.blk.port) :
    s.blockAt p = s.others.find? (fun b => decide (b.port = p)) := by
  cases hp : s.present <;> simp [State.blockAt, State.blocks, hp, h.symm]

/-- An operation that keeps the others and the front block's port keeps every other port's block. -/
theorem State.blockAt_congr_of_ne_front {s t : State} (ho : t.others = s.others) (hp : t.blk.port = s.blk.port) {p : Nat}
    (h : p ≠ s.blk.port) : t.blockAt p = s.blockAt p := by
  rw [State.blockAt_of_ne_front h, State.blockAt_of_ne_front (hp ▸ h), ho]

theorem State.select_blocks_perm {s u : State} {q : Nat} (h : s.select q = some u) : u.blocks.Perm s.blocks := by
  obtain ⟨hperm, -, hpres, -⟩ := State.select_eq_some h
  rwa [State.blocks_of_present hpres]

/-- Putting a block in front changes no port's block. -/
theorem State.select_blockAt {s u : State} {q : Nat} (hn : (s.blocks.map (·.port)).Nodup) (h : s.select q = some u)
    (p : Nat) : u.blockAt p = s.blockAt p := by
  have hperm := State.select_blocks_perm h
  have hn' : (u.blocks.map (·.port)).Nodup := (hperm.map _).nodup_iff.2 hn
  ext b
  rw [State.blockAt_eq_some_iff hn', State.blockAt_eq_some_iff hn, hperm.mem_iff]

theorem State.buildBlock_blocks (s : State) (q : Nat) (g : Straps) :
    (s.buildBlock q g).blocks = s.blocks ++ [⟨q, g, false, 0⟩] := by
  cases hp : s.present <;> simp [State.blocks, hp]

/-- A new block answers on its port where none did before, and on no other. -/
theorem State.buildBlock_blockAt (s : State) (q : Nat) (g : Straps) (p : Nat) :
    (s.buildBlock q g).blockAt p = (s.blockAt p).or (if q = p then some ⟨q, g, false, 0⟩ else none) := by
  rw [State.blockAt, State.buildBlock_blocks, List.find?_append, State.blockAt]
  congr 1
  by_cases h : q = p <;> simp [h]

theorem State.removeBlock_blockAt_front {s : State} (hp : s.present = true) (hn : (s.blocks.map (·.port)).Nodup) :
    s.removeBlock.blockAt s.blk.port = none := by
  rw [State.blocks_of_present hp, List.map_cons, List.nodup_cons] at hn
  rw [State.blockAt_eq_none, State.removeBlock_blocks]
  exact fun b hb he => hn.1 (he ▸ List.mem_map_of_mem hb)

/-- A removed block's port has no block, and every other port the block it had. -/
theorem State.removeBlock_blockAt {s : State} (hpres : s.present = true) (hn : (s.blocks.map (·.port)).Nodup) (p : Nat) :
    s.removeBlock.blockAt p = if p = s.blk.port then none else s.blockAt p := by
  split_ifs with h
  · exact h ▸ State.removeBlock_blockAt_front hpres hn
  · exact State.blockAt_congr_of_ne_front s.removeBlock_others rfl h

/-! ### Operations on the front block -/

/-- From `s` to `t` at most the binding of the front block and the timer resource changed, and not the supported set. -/
structure FrontOnly (s t : State) : Prop where
  others : t.others = s.others
  present : t.present = s.present
  port : t.blk.port = s.blk.port
  straps : t.blk.straps = s.blk.straps
  supp : t.tr.supp = s.tr.supp

theorem WritesWithin.frontOnly {w : WriteSet} {own : Option Channel} {s t : State} (h : WritesWithin w own s t) :
    FrontOnly s t := ⟨h.others, h.present, h.port, h.straps, h.supp⟩

theorem State.resetBlock_frontOnly (s : State) : FrontOnly s s.resetBlock := ⟨rfl, rfl, rfl, rfl, rfl⟩

theorem State.setBusclk_frontOnly (s : State) (hz : Word) : FrontOnly s (s.setBusclk hz) := ⟨rfl, rfl, rfl, rfl, rfl⟩

theorem FrontOnly.blockAt_of_ne {s t : State} (h : FrontOnly s t) {p : Nat} (hp : p ≠ s.blk.port) :
    t.blockAt p = s.blockAt p := State.blockAt_congr_of_ne_front h.others h.port hp

/-- Every port's block keeps its straps. -/
theorem FrontOnly.blockAt_straps {s t : State} (h : FrontOnly s t) (hs : s.present = true) {p : Nat} {b c : Block}
    (hb : s.blockAt p = some b) (hc : t.blockAt p = some c) : c.straps = b.straps := by
  by_cases hp : p = s.blk.port
  · rw [hp, State.blockAt_front hs] at hb
    rw [hp, ← h.port, State.blockAt_front (h.present.trans hs)] at hc
    cases hb
    cases hc
    exact h.straps
  · rw [h.blockAt_of_ne hp, hb] at hc
    cases hc
    rfl

/-! ### What a step can do -/

/-- What one step can do, one case for each event of the host, with the addressed block in front as `u`. -/
inductive StepsTo (s : State) : State → Prop where
  | idle (hq : s.queue = []) : StepsTo s s
  | command {p : Nat} {w : CmdWord} {rest : List HostEvent} {u t : State} (hq : s.queue = .command p w :: rest)
      (hu : { s with queue := rest }.select p = some u) (ht : exec (decode w) u = .next t) : StepsTo s t
  | reset {p : Nat} {rest : List HostEvent} {u : State} (hq : s.queue = .resetBlock p :: rest)
      (hu : { s with queue := rest }.select p = some u) : StepsTo s u.resetBlock
  | busClock {hz : Word} {rest : List HostEvent} (hq : s.queue = .busClock hz :: rest) :
      StepsTo s ({ s with queue := rest }.setBusclk hz)
  | build {p : Nat} {g : Straps} {rest : List HostEvent} (hq : s.queue = .buildBlock p g :: rest)
      (hfree : s.blockAt p = none) : StepsTo s ({ s with queue := rest }.buildBlock p g)
  | remove {p : Nat} {rest : List HostEvent} {u : State} (hq : s.queue = .removeBlock p :: rest)
      (hu : { s with queue := rest }.select p = some u) : StepsTo s u.removeBlock

/-- A step that answers did one of these. -/
theorem step_eq_next {s t : State} (h : step s = .next t) : StepsTo s t := by
  unfold step State.fetch at h
  cases hq : s.queue with
  | nil => rw [hq] at h; cases h; exact .idle hq
  | cons e rest =>
    rw [hq] at h
    cases e with
    | command p w =>
      cases hu : { s with queue := rest }.select p with
      | none => simp [hu] at h
      | some u => exact .command hq hu (by simpa [hu] using h)
    | resetBlock p =>
      cases hu : { s with queue := rest }.select p with
      | none => simp [hu] at h
      | some u => simp only [hu] at h; cases h; exact .reset hq hu
    | busClock hz => cases h; exact .busClock hq
    | buildBlock p g =>
      cases hb : s.blockAt p with
      | none => simp only [hb] at h; cases h; exact .build hq hb
      | some b => simp [hb] at h
    | removeBlock p =>
      cases hu : { s with queue := rest }.select p with
      | none => simp [hu] at h
      | some u => simp only [hu] at h; cases h; exact .remove hq hu

/-! ### The invariant of R21 -/

theorem Block.BindingOk.of_unbound {tr : Timer} {b : Block} (h : b.bindValid = false) : b.BindingOk tr :=
  fun hv => absurd (h.symm.trans hv) (by decide)

/-- Of the timer resource a binding needs only the supported set. -/
theorem Block.BindingOk.congr {tr tr' : Timer} {b : Block} (h : b.BindingOk tr) (hs : tr'.supp = tr.supp) :
    b.BindingOk tr' := fun hv => by
  rw [Timer.channel_congr hs]
  exact h hv

/-- INIT is the one command whose row marks the binding (R37). -/
theorem eq_init_of_mayWrite_binding {i : Instr} (h : i.mayWrite.binding = true) : ∃ a, i = .init a := by
  cases i with
  | init a => exact ⟨a, rfl⟩
  | _ => exact absurd h (by simp [Instr.mayWrite])

/-- R100: INIT, whichever way it ends, leaves a good binding. -/
theorem execInit_bindingOk {a : Word} {s t : State} (hb : s.blk.BindingOk s.tr) (h : execInit a s = .next t) :
    t.blk.BindingOk t.tr := by
  obtain ⟨g, e | ⟨-, e⟩ | ⟨hk, e⟩⟩ := execInit_cases a s <;> cases e.symm.trans h
  · exact hb.congr rfl
  · exact .of_unbound rfl
  · exact fun _ => ⟨rfl, hk⟩

/-- A command leaves the block it runs on with a binding that meets R21. -/
theorem exec_bindingOk {i : Instr} {s t : State} (hb : s.blk.BindingOk s.tr) (h : exec i s = .next t) :
    t.blk.BindingOk t.tr := by
  cases hw : i.mayWrite.binding with
  | true =>
    obtain ⟨a, rfl⟩ := eq_init_of_mayWrite_binding hw
    exact execInit_bindingOk (a := a) hb h
  | false =>
    have hx := exec_writesWithin hb h
    rw [hx.binding hw]
    exact hb.congr hx.supp

namespace State.Inv

theorem front {s : State} (hi : s.Inv) : s.blk.BindingOk s.tr := hi.1 _ List.mem_cons_self

/-- An operation on the front block alone keeps the invariant when it leaves that block's binding good. -/
theorem of_front {s t : State} (hi : s.Inv) (h : FrontOnly s t) (hb : t.blk.BindingOk t.tr) : t.Inv := by
  obtain ⟨hall, hn⟩ := hi
  refine ⟨List.forall_mem_cons.2 ⟨hb, fun b hm => ?_⟩, by rwa [State.blocks_ports_congr h.others h.port h.present]⟩
  exact (hall b (List.mem_cons_of_mem _ (h.others ▸ hm))).congr h.supp

theorem of_mem_blocks {s : State} (hi : s.Inv) {b : Block} (hm : b ∈ s.blocks) : b.BindingOk s.tr := by
  refine hi.1 b ?_
  unfold State.blocks at hm
  split_ifs at hm
  · exact hm
  · exact List.mem_cons_of_mem _ hm

theorem select {s u : State} {p : Nat} (hi : s.Inv) (h : s.select p = some u) : u.Inv := by
  obtain ⟨hperm, -, -, htr, -⟩ := State.select_eq_some h
  refine ⟨fun b hm => ?_, ((State.select_blocks_perm h).map _).nodup_iff.2 hi.2⟩
  rw [htr]
  exact hi.of_mem_blocks (hperm.mem_iff.1 hm)

theorem exec {i : Instr} {s t : State} (hi : s.Inv) (h : exec i s = .next t) : t.Inv :=
  hi.of_front (exec_writesWithin hi.front h).frontOnly (exec_bindingOk hi.front h)

theorem resetBlock {s : State} (hi : s.Inv) : s.resetBlock.Inv := hi.of_front s.resetBlock_frontOnly (.of_unbound rfl)

theorem setBusclk {s : State} (hi : s.Inv) (hz : Word) : (s.setBusclk hz).Inv :=
  hi.of_front (s.setBusclk_frontOnly hz) (hi.front.congr rfl)

theorem buildBlock {s : State} {p : Nat} (hi : s.Inv) (hfree : s.blockAt p = none) (g : Straps) :
    (s.buildBlock p g).Inv := by
  obtain ⟨hall, hn⟩ := hi
  constructor
  · intro b hm
    rw [State.buildBlock_blk, State.buildBlock_others, ← List.cons_append, List.mem_append, List.mem_singleton] at hm
    obtain hm | rfl := hm
    · exact hall b hm
    · exact .of_unbound rfl
  · rw [State.buildBlock_blocks, List.map_append]
    refine hn.append (List.nodup_singleton _) ?_
    simpa using State.blockAt_eq_none.1 hfree

theorem removeBlock {s : State} (hi : s.Inv) : s.removeBlock.Inv := by
  obtain ⟨hall, hn⟩ := hi
  have hsub : s.others.Sublist s.blocks := by
    unfold State.blocks
    split_ifs
    · exact List.sublist_cons_self _ _
    · exact .refl _
  exact ⟨hall, (hsub.map _).nodup hn⟩

end State.Inv

/-- `u` is `s` with the queue cut to `rest` and the block of port `q` in front, and under the invariant of R21. -/
structure InFront (s : State) (rest : List HostEvent) (q : Nat) (u : State) : Prop where
  inv : u.Inv
  present : u.present = true
  port : u.blk.port = q
  tr : u.tr = s.tr
  draws : u.draws = s.draws
  queue : u.queue = rest
  replies : u.replies = s.replies
  blockAt : ∀ p, u.blockAt p = s.blockAt p

/-- Bringing the addressed block to the front costs nothing: no field and no port's block changes. -/
theorem State.Inv.inFront {s u : State} {rest : List HostEvent} {q : Nat} (hi : s.Inv)
    (h : { s with queue := rest }.select q = some u) : InFront s rest q u := by
  have hq : { s with queue := rest }.Inv := hi
  obtain ⟨-, hport, hpres, htr, hdraws, hqueue, hreplies⟩ := State.select_eq_some h
  exact ⟨hq.select h, hpres, hport, htr, hdraws, hqueue, hreplies,
    State.select_blockAt (s := { s with queue := rest }) hi.2 h⟩

/-- Settles O53: the six things a step can do each keep the invariant, a command by `State.Inv.exec`. -/
theorem stepKeepsTheInvariant : Obligations.StepKeepsTheInvariant := by
  intro s t hi h
  have hq (rest : List HostEvent) : { s with queue := rest }.Inv := hi
  cases step_eq_next h with
  | idle => exact hi
  | command _ hu ht => exact (hi.inFront hu).inv.exec ht
  | reset _ hu => exact (hi.inFront hu).inv.resetBlock
  | busClock => exact (hq _).setBusclk _
  | build _ hfree => exact (hq _).buildBlock hfree _
  | remove _ hu => exact (hi.inFront hu).inv.removeBlock

/-! ### Straps, other blocks (R22, R41, R180) -/

/-- The command port an event is addressed to; a change of the bus clock is addressed to none. -/
def HostEvent.addressee : HostEvent → Option Nat
  | .command p _ => some p
  | .resetBlock p => some p
  | .busClock _ => none
  | .buildBlock p _ => some p
  | .removeBlock p => some p

/-- The block of a port that the next event is not addressed to is as it was. -/
theorem StepsTo.blockAt_of_not_addressed {s t : State} (hi : s.Inv) (h : StepsTo s t) {p : Nat}
    (hp : ∀ e ∈ s.queue.head?, e.addressee ≠ some p) : t.blockAt p = s.blockAt p := by
  have ne {q : Nat} {e : HostEvent} {rest : List HostEvent} (hq : s.queue = e :: rest) (he : e.addressee = some q) :
      p ≠ q := fun hpq => hp e (by simp [hq]) (hpq ▸ he)
  cases h with
  | idle => rfl
  | command hq hu ht =>
    have hf := hi.inFront hu
    have hx := (exec_writesWithin hf.inv.front ht).frontOnly
    exact (hx.blockAt_of_ne (hf.port ▸ ne hq rfl)).trans (hf.blockAt p)
  | @reset _ _ u hq hu =>
    have hf := hi.inFront hu
    exact (u.resetBlock_frontOnly.blockAt_of_ne (hf.port ▸ ne hq rfl)).trans (hf.blockAt p)
  | busClock => rfl
  | build hq =>
    rw [State.buildBlock_blockAt, if_neg (ne hq rfl).symm, Option.or_none]
    rfl
  | remove hq hu =>
    have hf := hi.inFront hu
    rw [State.removeBlock_blockAt hf.present hf.inv.2, if_neg (hf.port ▸ ne hq rfl), hf.blockAt]

/-- No step changes a strap. -/
theorem StepsTo.blockAt_straps {s t : State} (hi : s.Inv) (h : StepsTo s t) {p : Nat} {b c : Block}
    (hb : s.blockAt p = some b) (hc : t.blockAt p = some c) : c.straps = b.straps := by
  have same (h : t.blockAt p = s.blockAt p) : c.straps = b.straps := by
    rw [h, hb] at hc
    cases hc
    rfl
  cases h with
  | idle => exact same rfl
  | command _ hu ht =>
    have hf := hi.inFront hu
    exact (exec_writesWithin hf.inv.front ht).frontOnly.blockAt_straps hf.present ((hf.blockAt p).trans hb) hc
  | @reset _ _ u _ hu =>
    have hf := hi.inFront hu
    exact u.resetBlock_frontOnly.blockAt_straps hf.present ((hf.blockAt p).trans hb) hc
  | busClock => exact same rfl
  | @build q g rest =>
    have hb' : { s with queue := rest }.blockAt p = some b := hb
    exact same (by rw [State.buildBlock_blockAt, hb', hb, Option.some_or])
  | remove _ hu =>
    have hf := hi.inFront hu
    rw [State.removeBlock_blockAt hf.present hf.inv.2] at hc
    split_ifs at hc
    rw [hf.blockAt, hb] at hc
    cases hc
    rfl

/-- No step changes the supported set. -/
theorem StepsTo.supp {s t : State} (hi : s.Inv) (h : StepsTo s t) : t.tr.supp = s.tr.supp := by
  cases h with
  | idle | busClock | build => rfl
  | command _ hu ht =>
    have hf := hi.inFront hu
    rw [(exec_writesWithin hf.inv.front ht).supp, hf.tr]
  | reset _ hu => rw [State.resetBlock_tr, (hi.inFront hu).tr]
  | remove _ hu => rw [State.removeBlock_tr, (hi.inFront hu).tr]

/-- Settles O54: each of the four events with a port is addressed to that port alone. -/
theorem stepKeepsStrapsAndOtherBlocks : Obligations.StepKeepsStrapsAndOtherBlocks := by
  intro s t hi h
  have hst := step_eq_next h
  refine ⟨hst.supp hi, fun _ _ _ => hst.blockAt_straps hi, fun p port rest hp hq => ?_⟩
  have other {e : HostEvent} (he : e.addressee = some port) (hq : s.queue = e :: rest) : t.blockAt p = s.blockAt p :=
    hst.blockAt_of_not_addressed hi (by simpa [hq, he] using hp.symm)
  obtain ⟨w, hq⟩ | hq | ⟨g, hq⟩ | hq := hq <;> exact other rfl hq

/-! ### Build and remove (R24, R40) -/

theorem step_of_fetch_done {s t : State} (h : s.fetch = .done t) : step s = .next t := by
  rw [step, h]

theorem step_of_fetch_refused {s : State} {why : Refusal} (h : s.fetch = .refused why) : step s = .refused why := by
  rw [step, h]

/-- Settles O13: the new block stands last among the others (`State.buildBlock_blockAt`); the removed one is put in front,
where its place then counts for nothing (`State.removeBlock_blockAt`). -/
theorem buildAndRemoveTouchNoRegister : Obligations.BuildAndRemoveTouchNoRegister := by
  refine ⟨fun s port straps rest _ hq => ⟨fun hfree => ?_, fun hused => ?_⟩,
    fun s port rest hi hq => ⟨fun hused => ?_, fun hfree => ?_⟩⟩
  · have hlook (p : Nat) : (s.buildBlock port straps).blockAt p = _ := State.buildBlock_blockAt s port straps p
    refine ⟨_, step_of_fetch_done (State.fetch_buildBlock hq hfree), rfl, rfl, rfl, rfl, ?_, fun p hp => ?_⟩
    · refine (hlook port).trans ?_
      simp [hfree]
    · refine (hlook p).trans ?_
      simp [hp.symm]
  · obtain ⟨b, hb⟩ := Option.ne_none_iff_exists'.1 hused
    exact step_of_fetch_refused (by simp [State.fetch, hq, hb])
  · obtain ⟨b, hb⟩ := Option.ne_none_iff_exists'.1 hused
    have hu := State.select_of_blockAt (s := { s with queue := rest }) hb
    have hf := hi.inFront hu
    have hlook := State.removeBlock_blockAt hf.present hf.inv.2
    refine ⟨_, step_of_fetch_done (State.fetch_removeBlock hq hu), hf.tr, hf.queue, hf.replies, hf.draws,
      ?_, fun p hp => ?_⟩
    · rw [hlook, if_pos hf.port.symm]
    · rw [hlook, if_neg (hf.port ▸ hp), hf.blockAt]
  · have hu : { s with queue := rest }.select port = none := State.select_eq_none.2 hfree
    exact step_of_fetch_refused (by simp [State.fetch, hq, hu])

/-! ### The placed word (R26, R70) -/

/-- What `decodeTableWord` reads is what the command word of the same bits decodes to. -/
theorem eq_decode_of_decodeTableWord {nbits w : Nat} {i : Instr} (h : decodeTableWord nbits w = some i) :
    decode (BitVec.ofNat 36 (w % 2 ^ nbits)) = i := by
  unfold decodeTableWord decodeNat at h
  split_ifs at h
  simpa using h

/-- Settles O10: the front block answers to its own port, so the placed word is the command of the next step. -/
theorem placedWordRunsNext : Obligations.PlacedWordRunsNext := by
  intro s nbits w
  have hstep : step (s.withFetchWord nbits w) =
      exec (decode (BitVec.ofNat 36 (w % 2 ^ nbits))) { s with present := true } :=
    step_command (s := s.withFetchWord nbits w) rfl (State.select_self (s := { s with present := true }) rfl)
  refine ⟨hstep, fun i hi => ?_, fun hp => by rw [← hp]⟩
  rw [hstep, eq_decode_of_decodeTableWord hi]

/-! ### Launch (R40, R42) -/

theorem State.launch_blocks (first : Nat × Straps) (rest : List (Nat × Straps)) (tr : Timer) :
    (State.launch first rest tr).blocks = (first :: rest).map fun b => Block.built b.1 b.2 := rfl

theorem unbound_of_mem_launch {first : Nat × Straps} {rest : List (Nat × Straps)} {tr : Timer} {b : Block}
    (h : b ∈ (State.launch first rest tr).blocks) : b.bindValid = false ∧ b.bindSlot = 0 := by
  rw [State.launch_blocks] at h
  obtain ⟨c, -, rfl⟩ := List.mem_map.1 h
  exact ⟨rfl, rfl⟩

/-- Settles O14: every block of a launch is one just built. -/
theorem launchLeavesEveryBlockUnbound : Obligations.LaunchLeavesEveryBlockUnbound :=
  fun _ _ _ => ⟨rfl, fun _ hb => unbound_of_mem_launch hb⟩

/-- Settles O52: no block of a launch is bound, and its ports are those of the parameters. -/
theorem invariantHoldsAtLaunch : Obligations.InvariantHoldsAtLaunch := by
  have launch (first : Nat × Straps) (rest : List (Nat × Straps)) (tr : Timer) (hn : ((first :: rest).map (·.1)).Nodup) :
      (State.launch first rest tr).Inv := by
    refine ⟨fun b hb => .of_unbound (unbound_of_mem_launch (b := b) hb).1, ?_⟩
    rw [State.launch_blocks, List.map_map]
    exact hn
  exact ⟨launch _ [] _ (by simp), launch⟩

end Sys2Proof.Machine

/-! # Access to the timer resource's registers, and the step that reaches it

When a command stops, what a command word on the host's port comes to, float operands as rational numbers, and from these the
reload value that all blocks of one timer resource share. -/

namespace Sys2Proof.Machine

open Sys2Proof

/-! ### The one stop (R52) -/

/-- SET_DUTY either answers, or stops on a binding marked valid whose slot names no compare register that exists. -/
theorem execSetDuty_next_or_fault (d : Word) (s : State) :
    (∃ t, execSetDuty d s = .next t) ∨
      (s.blk.bindValid = true ∧ s.tr.channel s.blk.bindSlot = none ∧
        execSetDuty d s = .fault (.bindingNamesNoRegister s.blk.bindSlot)) := by
  unfold execSetDuty
  split_ifs with _ _ hb
  · exact .inl ⟨_, rfl⟩
  · exact .inl ⟨_, rfl⟩
  · exact .inl ⟨_, rfl⟩
  · cases hw : s.bindWrite (BitVec.ofNat 32 (compareValue (fval d).clampDuty s.readArr.toNat)) with
    | some t => exact .inl ⟨_, rfl⟩
    | none => exact .inr ⟨by simpa using hb, State.bindWrite_eq_none.1 hw, rfl⟩

/-- Every other command answers, whatever the state. -/
theorem exec_next_of_ne_setDuty {i : Instr} (hi : ∀ d, i ≠ .setDuty d) (s : State) : ∃ t, exec i s = .next t := by
  cases i with
  | setDuty d => exact absurd rfl (hi d)
  | setAutoPw us => obtain ⟨f, h⟩ | ⟨k, psc, arr, -, -, h⟩ := execSetAutoPw_cases us s <;> exact ⟨_, h⟩
  | setCcr v => obtain ⟨-, h⟩ | ⟨k, -, h⟩ := execSetCcr_cases v s <;> exact ⟨_, h⟩
  | enable a => obtain ⟨-, h⟩ | ⟨k, -, h⟩ := execEnable_cases a s <;> exact ⟨_, h⟩
  | disable a => obtain ⟨-, h⟩ | ⟨k, -, h⟩ := execDisable_cases a s <;> exact ⟨_, h⟩
  | init | setAutoFreq | setArr | setPsr | getTim | reserved0 | reservedB | reservedCToF => exact ⟨_, rfl⟩

/-- Settles O47: SET_DUTY by `execSetDuty_next_or_fault`; no other command has a path that stops. -/
theorem onlyADanglingBindingStops : Obligations.OnlyADanglingBindingStops := by
  intro i s
  by_cases hi : ∃ d, i = .setDuty d
  · obtain ⟨d, rfl⟩ := hi
    obtain h | ⟨hv, hc, h⟩ := execSetDuty_next_or_fault d s
    · exact .inl h
    · exact .inr ⟨⟨d, rfl⟩, hv, hc, h⟩
  · exact .inl (exec_next_of_ne_setDuty (fun d hd => hi ⟨d, hd⟩) s)

/-- Where the binding of the front block meets R21, every command answers. -/
theorem exec_next_of_bindingOk (i : Instr) {s : State} (hb : s.blk.BindingOk s.tr) : ∃ t, exec i s = .next t := by
  obtain h | ⟨-, hv, hc, -⟩ := onlyADanglingBindingStops i s
  · exact h
  · obtain ⟨hslot, hsome⟩ := hb hv
    simp [← hslot, hc] at hsome

/-! ### Decoding an encoded command (R71, R72) -/

/-- A well-formed instruction is what its word decodes to. -/
theorem decode_encode {i : Instr} (hwf : i.wellFormed = true) : decode (encode i) = i := by
  obtain ⟨hop, harg⟩ : (encode i).op = i.opcode ∧ (encode i).arg = i.operand :=
    Laws.OpcodeField.fields_of_append i.opcode i.operand
  simp only [decode, hop, harg]
  cases i with
  | setPsr hi lo =>
    exact congrArg₂ Instr.setPsr BitVec.extractLsb'_append_eq_left BitVec.extractLsb'_append_eq_right
  | reservedCToF op a =>
    have h12 : 12 ≤ op.toNat := by simpa [Instr.wellFormed] using hwf
    have hne {c : BitVec 4} (hc : c.toNat < 12) : op ≠ c := by
      rintro rfl
      omega
    simp [Instr.opcode, Instr.operand, hne]
  | _ => rfl

/-! ### Running the addressed command (R61, R70) -/

/-- A command on a port that no block has is refused. -/
theorem step_command_of_no_block {s : State} {port : Nat} {w : CmdWord} {rest : List HostEvent}
    (hq : s.queue = .command port w :: rest) (h : s.blockAt port = none) : step s = .refused (.noSuchPort port) := by
  have hu : { s with queue := rest }.select port = none := State.select_eq_none.2 h
  exact step_of_fetch_refused (by simp [State.fetch, hq, hu])

/-- Settles O9: the front block is selected by its own port (`State.select_self`), any other by `State.select_of_blockAt`;
then the word of a well-formed instruction decodes to it (`decode_encode`). -/
theorem stepRunsTheDecodedCommand : Obligations.StepRunsTheDecodedCommand := by
  intro s port w rest hq
  have runs {t : State} (ht : { s with queue := rest }.select port = some t) :
      step s = exec (decode w) t ∧ ∀ i : Instr, i.wellFormed = true → w = encode i → step s = exec i t := by
    refine ⟨step_command hq ht, fun i hi hw => ?_⟩
    rw [step_command hq ht, hw, decode_encode hi]
  refine ⟨fun hp hport => runs ?_, fun b hb => runs (State.select_of_blockAt hb), fun hno => ?_⟩
  · exact hport ▸ State.select_self (s := { s with queue := rest }) hp
  · exact step_command_of_no_block hq (State.blockAt_eq_none.2 hno)

/-! ### Float operands over the rationals (R78) -/

/-- The rational a fraction stands for. -/
def Frac.toRat (x : Frac) : ℚ := x.num / x.den

theorem f32Exp_eq_exponentOf (b : Word) : f32Exp b = exponentOf b := by
  simp [f32Exp, exponentOf, BitVec.extractLsb'_toNat, Nat.shiftRight_eq_div_pow]

theorem f32Frac_eq_fractionOf (b : Word) : f32Frac b = fractionOf b := by
  simp [f32Frac, fractionOf, BitVec.extractLsb'_toNat]

theorem f32Sign_eq_decide (b : Word) : f32Sign b = decide (2 ^ 31 ≤ b.toNat) :=
  (BitVec.msb_eq_getLsbD_last b).symm.trans (BitVec.msb_eq_decide b)

theorem f32Magnitude_den_pos (e f : Nat) : 0 < (f32Magnitude e f).den := by
  unfold f32Magnitude
  split_ifs
  · exact Nat.two_pow_pos 149
  · exact Nat.two_pow_pos (150 - e)
  · exact Nat.one_pos

/-- The three cases of the magnitude are the two of R78's formula, the power of two on one side of the fraction bar. -/
theorem f32Magnitude_toRat (e f : Nat) :
    (f32Magnitude e f).toRat =
      if e = 0 then f * (2 : ℚ) ^ (-149 : ℤ) else (2 ^ 23 + f) * (2 : ℚ) ^ ((e : ℤ) - 150) := by
  unfold f32Magnitude Frac.toRat
  split_ifs with h0 hlt
  · rw [div_eq_mul_inv, zpow_neg]
    norm_cast
  · have he : (e : ℤ) - 150 = -((150 - e : ℕ) : ℤ) := by omega
    rw [div_eq_mul_inv, he, zpow_neg, zpow_natCast]
    push_cast
    rfl
  · have he : (e : ℤ) - 150 = ((e - 150 : ℕ) : ℤ) := by omega
    rw [he, zpow_natCast, Nat.cast_one, div_one, Nat.cast_mul, Nat.cast_add, Nat.cast_pow, Nat.cast_pow, Nat.cast_two]

theorem f32Value_eq_signOf_mul (b : Word) :
    f32Value b = signOf b * (f32Magnitude (exponentOf b) (fractionOf b)).toRat := by
  rw [f32Magnitude_toRat, f32Value]
  split_ifs <;> ring

theorem fval_of_isNaN {b : Word} (h : IsNaN b) : fval b = .nan := by
  obtain ⟨he, hf⟩ := h
  simp [fval, f32Exp_eq_exponentOf, f32Frac_eq_fractionOf, he, hf]

theorem fval_of_isPosInf {b : Word} (h : IsPosInf b) : fval b = .posInf := by
  obtain ⟨he, hf, hs⟩ := h
  simpa [fval, f32Exp_eq_exponentOf, f32Frac_eq_fractionOf, f32Sign_eq_decide, he, hf] using hs

theorem fval_of_isNegInf {b : Word} (h : IsNegInf b) : fval b = .negInf := by
  obtain ⟨he, hf, hs⟩ := h
  simpa [fval, f32Exp_eq_exponentOf, f32Frac_eq_fractionOf, f32Sign_eq_decide, he, hf] using hs

/-- A finite pattern's fraction has a positive denominator and is the value of R78. -/
theorem fval_of_isFinite {b : Word} (h : IsFinite b) :
    ∃ (n : Int) (d : Nat), fval b = .fin n d ∧ 0 < d ∧ (n : ℚ) / d = f32Value b := by
  refine ⟨_, _, by rw [fval, if_neg (f32Exp_eq_exponentOf b ▸ h)], f32Magnitude_den_pos _ _, ?_⟩
  rw [f32Value_eq_signOf_mul, signOf, f32Exp_eq_exponentOf, f32Frac_eq_fractionOf, f32Sign_eq_decide, Frac.toRat]
  by_cases hs : 2 ^ 31 ≤ b.toNat
  · simp only [hs, decide_true, if_true]
    push_cast
    ring
  · simp only [hs, decide_false, if_false, Bool.false_eq_true]
    push_cast
    ring

/-- Every pattern is of one of the four classes of R78. -/
theorem float_classes (b : Word) : IsNaN b ∨ IsPosInf b ∨ IsNegInf b ∨ IsFinite b := by
  by_cases he : exponentOf b = 255
  · by_cases hf : fractionOf b = 0
    · by_cases hs : b.toNat < 2 ^ 31
      · exact .inr (.inl ⟨he, hf, hs⟩)
      · exact .inr (.inr (.inl ⟨he, hf, not_lt.1 hs⟩))
    · exact .inl ⟨he, hf⟩
  · exact .inr (.inr (.inr he))

/-! ### The duty cycle (R111, R112, R115) -/

theorem not_isPosInf_of_isFinite {d : Word} (h : IsFinite d) : ¬ IsPosInf d := fun hp => h hp.1

theorem dutyPercent_le_hundred (d : Word) : dutyPercent d ≤ 100 := by
  unfold dutyPercent
  split_ifs
  · exact le_rfl
  · exact min_le_right _ _

/-- R111's check passes just the accepted operands. -/
theorem belowDuty_eq_false_iff (d : Word) : (fval d).belowDuty = false ↔ DutyAccepted d := by
  obtain h | h | h | h := float_classes d
  · rw [fval_of_isNaN h]
    exact iff_of_false (by simp [FVal.belowDuty]) (by rintro (hp | hf); exacts [h.2 hp.2.1, hf.1 h.1])
  · rw [fval_of_isPosInf h]
    exact iff_of_true rfl (.inl h)
  · rw [fval_of_isNegInf h]
    exact iff_of_false (by simp [FVal.belowDuty]) (by rintro (hp | hf); exacts [hp.2.2.not_ge h.2.2, hf.1 h.1])
  · obtain ⟨n, den, hv, hden, hval⟩ := fval_of_isFinite h
    have hsign : 0 ≤ f32Value d ↔ 0 ≤ n := by
      rw [← hval, le_div_iff₀ (Nat.cast_pos.2 hden), zero_mul, Int.cast_nonneg_iff]
    simp [hv, FVal.belowDuty, DutyAccepted, not_isPosInf_of_isFinite h, h, hsign]

theorem clampDuty_den_pos (d : Word) : 0 < (fval d).clampDuty.den := by
  obtain h | h | h | h := float_classes d
  · rw [fval_of_isNaN h]; exact Nat.one_pos
  · rw [fval_of_isPosInf h]; exact Nat.one_pos
  · rw [fval_of_isNegInf h]; exact Nat.one_pos
  · obtain ⟨n, den, hv, hden, -⟩ := fval_of_isFinite h
    rw [hv, FVal.clampDuty]
    split_ifs
    · exact Nat.one_pos
    · exact hden

/-- R112: on an accepted operand the machine's clamp is the duty cycle of the spec. -/
theorem clampDuty_toRat {d : Word} (h : DutyAccepted d) : (fval d).clampDuty.toRat = dutyPercent d := by
  obtain hp | ⟨hf, hnonneg⟩ := h
  · rw [fval_of_isPosInf hp, dutyPercent, if_pos hp]
    norm_num [FVal.clampDuty, Frac.toRat]
  · obtain ⟨n, den, hv, hden, hval⟩ := fval_of_isFinite hf
    have hden' : (0 : ℚ) < den := Nat.cast_pos.2 hden
    have hover : 100 * (den : ℤ) < n ↔ 100 < f32Value d := by
      rw [← hval, lt_div_iff₀ hden']
      norm_cast
    rw [hv, FVal.clampDuty, dutyPercent, if_neg (not_isPosInf_of_isFinite hf)]
    split_ifs with hc
    · rw [min_eq_right (hover.1 hc).le]
      norm_num [Frac.toRat]
    · have hn : 0 ≤ n := by
        rw [← hval, le_div_iff₀ hden', zero_mul] at hnonneg
        exact_mod_cast hnonneg
      rw [min_eq_left (not_lt.1 (hover.not.1 hc)), Frac.toRat, ← hval]
      congr 1
      exact_mod_cast Int.toNat_of_nonneg hn

/-- R115: for a duty cycle of at most 100 the compare value is `floor(dc * P / 100)`; the `min` takes nothing away. -/
theorem compareValue_eq_floor {dc : Frac} (hden : 0 < dc.den) (hle : dc.toRat ≤ 100) (period : Nat) :
    (compareValue dc period : ℤ) = ⌊dc.toRat * period / 100⌋ := by
  have hnum : dc.num ≤ 100 * dc.den := by
    rw [Frac.toRat, div_le_iff₀ (Nat.cast_pos.2 hden)] at hle
    exact_mod_cast hle
  have hmin : dc.num * period / (dc.den * 100) ≤ period := by
    refine Nat.div_le_of_le_mul ?_
    calc dc.num * period ≤ 100 * dc.den * period := Nat.mul_le_mul_right _ hnum
      _ = dc.den * 100 * period := by ring
  have hfrac : dc.toRat * period / 100 = ((dc.num * period : ℕ) : ℚ) / (dc.den * 100 : ℕ) := by
    rw [Frac.toRat]
    push_cast
    ring
  rw [compareValue, min_eq_left hmin, hfrac, Rat.floor_natCast_div_natCast, Int.natCast_div]

/-- The word SET_DUTY writes for an accepted operand holds the exact floor: it is at most the period, so no bit is lost. -/
theorem dutyWord_toNat {d : Word} (h : DutyAccepted d) (arr : Word) :
    ((BitVec.ofNat 32 (compareValue (fval d).clampDuty arr.toNat)).toNat : ℤ) = ⌊dutyPercent d * arr.toNat / 100⌋ := by
  have hdc := clampDuty_toRat h
  have hlt : compareValue (fval d).clampDuty arr.toNat < 2 ^ 32 := (compareValue_le _ _).trans_lt arr.isLt
  rw [BitVec.toNat_ofNat, Nat.mod_eq_of_lt hlt,
    compareValue_eq_floor (clampDuty_den_pos d) (hdc ▸ dutyPercent_le_hundred d), hdc]

/-! ### SET_DUTY on an accepted operand (R113, R115) -/

theorem execSetDuty_of_no_period {d : Word} {s : State} (h : DutyAccepted d) (harr : s.tr.regs.arr = 0) :
    execSetDuty d s = .next (s.raise s.blk.straps.errPeriodZero) := by
  simp [execSetDuty, (belowDuty_eq_false_iff d).2 h, State.readArr, harr]

theorem execSetDuty_of_bound {d : Word} {s : State} {k : Channel} (h : DutyAccepted d) (harr : s.tr.regs.arr ≠ 0)
    (hv : s.blk.bindValid = true) (hk : s.tr.channel s.blk.bindSlot = some k) :
    execSetDuty d s =
      .next (s.writeCcr k (BitVec.ofNat 32 (compareValue (fval d).clampDuty s.tr.regs.arr.toNat))).returnOk := by
  have hp : s.readArr ≠ 0 := harr
  rw [execSetDuty, (belowDuty_eq_false_iff d).2 h, if_neg Bool.false_ne_true, if_neg hp, if_neg (by simp [hv]),
    State.bindWrite_of_channel hk]
  rfl

/-! ### The resolver is the ascending search (R128 to R130, R136) -/

/-- The candidate of R128, computed over the natural numbers, is the floor of the rational. -/
theorem floor_toRat_div (x : Frac) (psc : Nat) : ⌊x.toRat / psc⌋ = (candidate x psc : ℤ) := by
  rw [Frac.toRat, div_div, ← Nat.cast_mul, Rat.floor_natCast_div_natCast, candidate, Int.natCast_div]

/-- The closed form's prescaler, the least one whose candidate fits 16 bits (`candidate_fits_iff`). -/
def leastPrescaler (x : Frac) : Nat := x.num / (x.den * 65536) + 1

theorem leastPrescaler_pos (x : Frac) : 0 < leastPrescaler x := Nat.succ_pos _

/-- Started at or below the least prescaler, the search finds it if its fuel reaches so far. -/
theorem ascendingSearch_eq {x : Frac} (hden : 0 < x.den) {fuel psc : Nat} (hpos : 0 < psc) (hle : psc ≤ leastPrescaler x) :
    ascendingSearch x.toRat fuel psc = if leastPrescaler x < psc + fuel then some (leastPrescaler x) else none := by
  induction fuel generalizing psc with
  | zero => rw [ascendingSearch, if_neg (by omega)]
  | succ fuel ih =>
    have hfits : ⌊x.toRat / psc⌋ ≤ 65535 ↔ leastPrescaler x ≤ psc := by
      rw [floor_toRat_div, leastPrescaler, ← candidate_fits_iff hden hpos]
      norm_cast
    rw [ascendingSearch]
    by_cases h : leastPrescaler x ≤ psc
    · have heq : leastPrescaler x = psc := le_antisymm h hle
      rw [if_pos (hfits.2 h), if_pos (by omega), heq]
    · rw [if_neg (hfits.not.2 h), ih (by omega) (by omega)]
      congr 2
      omega

/-! Each cause of R127, and the pulse widths it lets pass. -/

theorem resolve_of_isNaN {b : Nat} {us : Word} (h : IsNaN us) : resolve b (fval us) = .failed .invalidParameter := by
  simp [resolve, fval_of_isNaN h]

theorem resolve_of_isNegInf {b : Nat} {us : Word} (h : IsNegInf us) : resolve b (fval us) = .failed .invalidParameter := by
  simp [resolve, fval_of_isNegInf h]

theorem resolve_of_isPosInf {b : Nat} {us : Word} (hb : b ≠ 0) (h : IsPosInf us) :
    resolve b (fval us) = .failed .configurationUnattainable := by
  simp [resolve, fval_of_isPosInf h, hb]

/-- R127's last cause: a finite pulse width of less than one bus-clock period. -/
theorem resolve_of_short {b : Nat} {us : Word} (h : IsFinite us) (hx : b * f32Value us < 1000000) :
    resolve b (fval us) = .failed .invalidParameter := by
  obtain ⟨n, d, hv, hd, hval⟩ := fval_of_isFinite h
  have hshort : (b : ℤ) * n < 1000000 * (d : ℤ) := by
    rw [← hval, ← mul_div_assoc, div_lt_iff₀ (Nat.cast_pos.2 hd)] at hx
    exact_mod_cast hx
  simp [resolve, hv, hshort]

/-- A finite pulse width that R127 lets pass is resolved from a fraction that is the `X` of R128. -/
theorem resolve_of_long {busclk us : Word} (hb : busclk ≠ 0) (h : IsFinite us)
    (hx : 1000000 ≤ busclk.toNat * f32Value us) :
    ∃ x : Frac, 0 < x.den ∧ x.toRat = periodTicks busclk us ∧ resolve busclk.toNat (fval us) = resolveTicks x := by
  obtain ⟨n, d, hv, hd, hval⟩ := fval_of_isFinite h
  have hb0 : busclk.toNat ≠ 0 := fun h0 => hb (BitVec.eq_of_toNat_eq h0)
  have hlong : 1000000 * (d : ℤ) ≤ busclk.toNat * n := by
    rw [← hval, ← mul_div_assoc, le_div_iff₀ (Nat.cast_pos.2 hd)] at hx
    exact_mod_cast hx
  have hn : 0 ≤ n := by
    by_contra hneg
    have : (busclk.toNat : ℤ) * n ≤ 0 := mul_nonpos_of_nonneg_of_nonpos (by omega) (by omega)
    omega
  have hcast : ((n.toNat : ℕ) : ℚ) = n := by exact_mod_cast Int.toNat_of_nonneg hn
  refine ⟨ticks busclk.toNat n.toNat d, Nat.mul_pos hd (by norm_num), ?_, ?_⟩
  · rw [Frac.toRat, ticks, periodTicks, ← hval, Nat.cast_mul, Nat.cast_mul, hcast, Nat.cast_ofNat]
    ring
  · simp [resolve, hb0, hv, hlong.not_gt]

/-- The search of R125 as the closed form puts it. -/
theorem searchResolve_of_long {busclk us : Word} {x : Frac} (hb : busclk ≠ 0) (h : IsFinite us)
    (hx : 1000000 ≤ busclk.toNat * f32Value us) (hden : 0 < x.den) (hrat : x.toRat = periodTicks busclk us) :
    searchResolve busclk us = resolveTicks x := by
  have hnone : ¬ (IsNaN us ∨ IsNegInf us ∨ busclk = 0) := by rintro (hn | hn | hn); exacts [h hn.1, h hn.1, hb hn]
  rw [searchResolve, if_neg hnone, if_neg (not_isPosInf_of_isFinite h), if_neg hx.not_gt, ← hrat,
    ascendingSearch_eq hden Nat.one_pos (leastPrescaler_pos x), resolveTicks, ← leastPrescaler]
  have hreach : leastPrescaler x < 1 + 65535 ↔ leastPrescaler x ≤ 65535 := by omega
  by_cases hl : leastPrescaler x ≤ 65535
  · simp [hreach, hl, floor_toRat_div]
  · simp [hreach, hl]

/-- R134 item 1, R136: the closed form answers what the search of R125 does, whatever the operand and the clock. -/
theorem resolve_eq_searchResolve (busclk us : Word) : resolve busclk.toNat (fval us) = searchResolve busclk us := by
  by_cases hb : busclk = 0
  · simp [resolve, searchResolve, hb]
  obtain h | h | h | h := float_classes us
  · rw [resolve_of_isNaN h, searchResolve, if_pos (.inl h)]
  · have hnone : ¬ (IsNaN us ∨ IsNegInf us ∨ busclk = 0) := by
      rintro (hn | hn | hn)
      exacts [hn.2 h.2.1, h.2.2.not_ge hn.2.2, hb hn]
    rw [resolve_of_isPosInf (fun h0 => hb (BitVec.eq_of_toNat_eq h0)) h, searchResolve, if_neg hnone, if_pos h]
  · rw [resolve_of_isNegInf h, searchResolve, if_pos (.inr (.inl h))]
  · by_cases hx : busclk.toNat * f32Value us < 1000000
    · have hinf := not_isPosInf_of_isFinite h
      rw [resolve_of_short h hx, searchResolve, if_neg hinf, if_pos hx, ite_self]
    · obtain ⟨x, hden, hrat, hres⟩ := resolve_of_long hb h (not_lt.1 hx)
      rw [hres, searchResolve_of_long hb h (not_lt.1 hx) hden hrat]

/-! ### The binding during another command (R21, R100) -/

/-- The channel of a valid binding that meets R21. -/
theorem Block.BindingOk.channel_bindSlot {tr : Timer} {b : Block} {k : Channel} (h : b.BindingOk tr)
    (hv : b.bindValid = true) (hk : Channel.ofCode b.straps.ch = some k) : tr.channel b.bindSlot = some k := by
  obtain ⟨hslot, hsome⟩ := h hv
  obtain ⟨j, hj⟩ := Option.isSome_iff_exists.1 hsome
  rw [hslot, hj, ← (Timer.channel_eq_some.1 hj).1, hk]

/-- A command leaves a bound block as it is: INIT, the one that writes a binding, resolves it to the same channel. -/
theorem exec_blk_of_bound {i : Instr} {s t : State} (hb : s.blk.BindingOk s.tr) (hv : s.blk.bindValid = true)
    (h : exec i s = .next t) : t.blk = s.blk := by
  cases hw : i.mayWrite.binding with
  | false => exact (exec_writesWithin hb h).binding hw
  | true =>
    obtain ⟨a, rfl⟩ := eq_init_of_mayWrite_binding hw
    obtain ⟨hslot, hsome⟩ := hb hv
    obtain ⟨g, e | ⟨hk, -⟩ | ⟨-, e⟩⟩ := execInit_cases a s
    · cases e.symm.trans h
      rfl
    · have hnone : s.tr.channel s.blk.straps.ch = none := hk
      simp [hnone] at hsome
    · cases e.symm.trans h
      simp [← hslot, ← hv]

/-- A command of the front block leaves every bound block, its own or another's, as it is. -/
theorem exec_blockAt_of_bound {i : Instr} {s t : State} {p : Nat} {b : Block} (hi : s.Inv) (hp : s.present = true)
    (h : exec i s = .next t) (hb : s.blockAt p = some b) (hv : b.bindValid = true) : t.blockAt p = some b := by
  have hx := (exec_writesWithin hi.front h).frontOnly
  by_cases hport : p = s.blk.port
  · rw [hport, State.blockAt_front hp] at hb
    cases hb
    rw [hport, ← hx.port, State.blockAt_front (hx.present.trans hp), exec_blk_of_bound hi.front hv h]
  · rw [hx.blockAt_of_ne hport, hb]

/-! ### The reload value (R66, R180) -/

theorem exec_setArr_arr {v : Word} {s t : State} (h : exec (.setArr v) s = .next t) : t.tr.regs.arr = v := by
  cases h
  rfl

theorem exec_setAutoFreq_arr {hz : Word} {s t : State} (h : exec (.setAutoFreq hz) s = .next t) :
    t.tr.regs.arr = (Config.trAutoFreq s.draws hz s.tr).2.arr := by
  cases h
  rfl

/-- SET_AUTO_PW on a supported channel leaves the reload value that the search of R125 finds. -/
theorem exec_setAutoPw_arr {us : Word} {psc arr : Nat} {s t : State} (hr : searchResolve s.tr.busclk us = .found psc arr)
    (hc : s.channel ≠ none) (h : exec (.setAutoPw us) s = .next t) : t.tr.regs.arr = BitVec.ofNat 32 arr := by
  obtain ⟨k, hk⟩ := Option.ne_none_iff_exists'.1 hc
  have he : exec (.setAutoPw us) s = .next (s.programPair k psc arr).returnOk := by
    rw [exec, execSetAutoPw, State.readBusclk, resolve_eq_searchResolve, hr, hk]
  cases he.symm.trans h
  rfl

/-- SET_DUTY on an accepted operand by a bound block takes the reload value as its period and leaves it. -/
theorem execSetDuty_of_accepted {d : Word} {s : State} {k : Channel} (hd : DutyAccepted d) (hb : s.blk.BindingOk s.tr)
    (hv : s.blk.bindValid = true) (hk : Channel.ofCode s.blk.straps.ch = some k) :
    ∃ t, execSetDuty d s = .next t ∧ t.queue = s.queue ∧ t.tr.regs.arr = s.tr.regs.arr ∧
      (s.tr.regs.arr ≠ 0 → ((t.tr.regs.ccr.get k).toNat : ℤ) = ⌊dutyPercent d * s.tr.regs.arr.toNat / 100⌋ ∧
        t.replies = s.answered .ok 0) ∧
      (s.tr.regs.arr = 0 → t.tr = s.tr ∧ t.replies = s.answered (.failed s.blk.straps.errPeriodZero) 0) := by
  by_cases harr : s.tr.regs.arr = 0
  · exact ⟨_, execSetDuty_of_no_period hd harr, rfl, rfl, fun hne => absurd harr hne, fun _ => ⟨rfl, rfl⟩⟩
  · refine ⟨_, execSetDuty_of_bound hd harr hv (hb.channel_bindSlot hv hk), rfl, rfl, fun _ => ⟨?_, rfl⟩,
      fun h0 => absurd h0 harr⟩
    rw [← dutyWord_toNat hd s.tr.regs.arr]
    simp

/-- The block of a port can be brought to the front, the queue cut to `rest`. -/
theorem State.Inv.exists_inFront {s : State} {p : Nat} {b : Block} (hi : s.Inv) (hb : s.blockAt p = some b)
    (rest : List HostEvent) : ∃ u, { s with queue := rest }.select p = some u ∧ InFront s rest p u ∧ u.blk = b := by
  have hu := State.select_of_blockAt (s := { s with queue := rest }) hb
  exact ⟨_, hu, hi.inFront hu, rfl⟩

/-- Settles O55: the first command leaves the addressed block of the second bound (`exec_blockAt_of_bound`), and that block's
SET_DUTY reads the one reload value there is (`execSetDuty_of_accepted`). -/
theorem reloadValueIsSharedBetweenBlocks : Obligations.ReloadValueIsSharedBetweenBlocks := by
  intro s p q w d a b k rest hi hq ha hb hv hk hd
  obtain ⟨m, hm, hf, hma⟩ := hi.exists_inFront ha (.command q (encode (.setDuty d)) :: rest)
  obtain ⟨t, ht⟩ := exec_next_of_bindingOk (decode w) hf.inv.front
  have htq : t.queue = .command q (encode (.setDuty d)) :: rest :=
    (exec_writesWithin hf.inv.front ht).queue.trans hf.queue
  have htb : t.blockAt q = some b := exec_blockAt_of_bound hf.inv hf.present ht ((hf.blockAt q).trans hb) hv
  obtain ⟨n, hn, hg, rfl⟩ := (hf.inv.exec ht).exists_inFront htb rest
  obtain ⟨u, hu, huq, huarr, hperiod, hzero⟩ := execSetDuty_of_accepted hd hg.inv.front hv hk
  rw [hg.tr] at huarr
  rw [hg.tr, State.answered_eq_append, hg.replies, hg.port] at hperiod hzero
  have hut : step t = .next u := by
    rw [step_command htq hn, decode_encode rfl]
    exact hu
  have run {i : Instr} (hi : i.wellFormed = true) (hw : w = encode i) : exec i m = .next t := by
    rwa [hw, decode_encode hi] at ht
  refine ⟨t, u, (step_command hq hm).trans ht, hut, huq.trans hg.queue, huarr, fun v hw => exec_setArr_arr (run rfl hw),
    fun us psc arr hw hr hc => ?_, fun hz hw => ?_, hperiod, hzero⟩
  · refine exec_setAutoPw_arr (by rwa [hf.tr]) ?_ (run rfl hw)
    rwa [State.channel, hf.tr, hma]
  · rw [exec_setAutoFreq_arr (run rfl hw), hf.draws, hf.tr]

end Sys2Proof.Machine

/-! # The command word, the response word, and what every command answers

The decoder and the encoder are inverse (R71, R72, R76), the response word and its reader too (R75), ignored bits are ignored
(R73, R80), and every command of a state under the invariant gives one response that R166 allows it. -/

namespace Sys2Proof.Machine

open Sys2Proof

/-! ### Every word is the word of an instruction (R71, R72, R76) -/

/-- R72: every opcode has a command, which takes any operand. -/
theorem exists_instr_of_fields (o : BitVec 4) (a : Word) :
    ∃ i : Instr, i.wellFormed = true ∧ i.opcode = o ∧ i.operand = a := by
  have rows : ∀ o : BitVec 4, o = 0 ∨ o = 1 ∨ o = 2 ∨ o = 3 ∨ o = 4 ∨ o = 5 ∨ o = 6 ∨ o = 7 ∨ o = 8 ∨ o = 9 ∨ o = 10 ∨
      o = 11 ∨ 12 ≤ o.toNat := by decide
  obtain rfl | rfl | rfl | rfl | rfl | rfl | rfl | rfl | rfl | rfl | rfl | rfl | h := rows o
  · exact ⟨.reserved0 a, rfl, rfl, rfl⟩
  · exact ⟨.init a, rfl, rfl, rfl⟩
  · exact ⟨.setDuty a, rfl, rfl, rfl⟩
  · exact ⟨.setAutoFreq a, rfl, rfl, rfl⟩
  · exact ⟨.setAutoPw a, rfl, rfl, rfl⟩
  · exact ⟨.setArr a, rfl, rfl, rfl⟩
  · exact ⟨.setCcr a, rfl, rfl, rfl⟩
  · exact ⟨.setPsr (a.extractLsb' 16 16) (a.extractLsb' 0 16), rfl, rfl, BitVec.extractLsb'_append_extractLsb'⟩
  · exact ⟨.enable a, rfl, rfl, rfl⟩
  · exact ⟨.disable a, rfl, rfl, rfl⟩
  · exact ⟨.getTim a, rfl, rfl, rfl⟩
  · exact ⟨.reservedB a, rfl, rfl, rfl⟩
  · exact ⟨.reservedCToF o a, by simpa [Instr.wellFormed] using h, rfl, rfl⟩

/-- A command word is its opcode and its operand, one after the other. -/
theorem op_append_arg (w : CmdWord) : (w.op ++ w.arg : BitVec (4 + 32)) = w := BitVec.extractLsb'_append_extractLsb'

/-- Every word is the word of a well-formed instruction. -/
theorem exists_encode_eq (w : CmdWord) : ∃ i : Instr, i.wellFormed = true ∧ encode i = w := by
  obtain ⟨i, hwf, hop, harg⟩ := exists_instr_of_fields w.op w.arg
  refine ⟨i, hwf, ?_⟩
  rw [encode, hop, harg]
  exact op_append_arg w

theorem encode_op (i : Instr) : (encode i).op = i.opcode := (Laws.OpcodeField.fields_of_append i.opcode i.operand).1

/-- Settles O2: the first half is `decode_encode`, and a word, being that of a well-formed instruction (`exists_encode_eq`),
decodes to it. -/
theorem decodeAndEncodeAreInverse : Obligations.DecodeAndEncodeAreInverse := by
  refine ⟨fun i => decode_encode, fun w => ?_⟩
  obtain ⟨i, hwf, rfl⟩ := exists_encode_eq w
  rw [decode_encode hwf]
  exact ⟨hwf, rfl⟩

/-! ### The rows of the opcode table -/

/-- A row looks at opcode bits only. -/
theorem mask_of_mem_opcodeTable : ∀ r ∈ opcodeTable, r.mask = (r.mask.op ++ 0#32 : BitVec (4 + 32)) := by decide

/-- So whether a word belongs to a row is a question about its opcode. -/
theorem TableRow.matches_iff_op {r : TableRow} (hr : r ∈ opcodeTable) (w : CmdWord) :
    r.matches w ↔ r.matches (w.op ++ 0#32 : BitVec (4 + 32)) := by
  have hw : w &&& r.mask = (w.op ++ 0#32 : BitVec (4 + 32)) &&& r.mask := by
    rw [mask_of_mem_opcodeTable r hr]
    calc w &&& (r.mask.op ++ 0#32 : BitVec (4 + 32))
        = (w.op ++ w.arg : BitVec (4 + 32)) &&& (r.mask.op ++ 0#32) := by rw [op_append_arg]
      _ = (w.op ++ 0#32 : BitVec (4 + 32)) &&& (r.mask.op ++ 0#32) := by
          rw [BitVec.and_append, BitVec.and_append, BitVec.and_zero, BitVec.and_zero]
  rw [TableRow.matches, hw]

/-- On words with operand 0, one for each opcode, the rows are those of the decoder. -/
theorem opcodeTable_matches_opcode : ∀ o : BitVec 4,
    (∀ r ∈ opcodeTable,
      r.matches (o ++ 0#32 : BitVec (4 + 32)) ↔ (decode (o ++ 0#32 : BitVec (4 + 32))).mnemonic = r.mnemonic) ∧
      ∃ r ∈ opcodeTable, r.matches (o ++ 0#32 : BitVec (4 + 32)) := by
  decide

/-- The mnemonic, too, is a question about the opcode. -/
theorem mnemonic_decode (w : CmdWord) :
    (decode w).mnemonic = (decode (w.op ++ 0#32 : BitVec (4 + 32))).mnemonic := by
  simp only [decode, apply_ite Instr.mnemonic, (Laws.OpcodeField.fields_of_append w.op 0#32).1]
  rfl

/-- Settles O3: row and mnemonic both depend on the opcode alone, and the sixteen opcodes are gone through
(`opcodeTable_matches_opcode`). -/
theorem eachWordHasItsOneTableRow : Obligations.EachWordHasItsOneTableRow := by
  refine ⟨by decide, fun w => ?_⟩
  obtain ⟨hrow, r, hr, hmatch⟩ := opcodeTable_matches_opcode w.op
  refine ⟨fun q hq => ?_, r, hr, (TableRow.matches_iff_op hr w).2 hmatch⟩
  rw [TableRow.matches_iff_op hq, mnemonic_decode]
  exact hrow q hq

/-! ### Ignored bits, reserved opcodes (R73, R76, R80) -/

/-- Settles O4: equal opcodes select one arm of the decoder; ten of them lead to a meaning that ignores its operand, and
SET_PSR takes the low half only. -/
theorem ignoredOperandBitsChangeNothing : Obligations.IgnoredOperandBitsChangeNothing := by
  intro v w s hop h
  simp only [List.mem_cons, List.not_mem_nil, or_false] at h
  obtain (hv | hv | hv | hv | hv | hv | hv | hv | hv | hv) | ⟨hv, hlow⟩ := h
  case inr =>
    have harg : v.arg.extractLsb' 0 16 = w.arg.extractLsb' 0 16 := by
      apply BitVec.eq_of_toNat_eq
      simpa [CmdWord.arg, BitVec.extractLsb'_toNat] using hlow
    rw [decode, decode, ← hop, hv, harg]
    rfl
  all_goals
    rw [decode, decode, ← hop, hv]
    rfl

/-- The response to a reserved command (R76). -/
theorem exec_of_reserved {i : Instr} (s : State)
    (h : (∃ a, i = .reserved0 a) ∨ (∃ a, i = .reservedB a) ∨ ∃ o a, i = .reservedCToF o a) :
    exec i s = .next { s with replies := s.answered (.failed .invalidParameter) 0 } := by
  obtain ⟨a, rfl⟩ | ⟨a, rfl⟩ | ⟨o, a, rfl⟩ := h <;> rfl

/-- The words that decode to a reserved command are those with a reserved opcode. -/
theorem decode_reserved_iff (w : CmdWord) :
    ((∃ a, decode w = .reserved0 a) ∨ (∃ a, decode w = .reservedB a) ∨ ∃ o a, decode w = .reservedCToF o a) ↔
      w.op = 0x0#4 ∨ 0xB ≤ w.op.toNat := by
  obtain ⟨i, hwf, rfl⟩ := exists_encode_eq w
  rw [decode_encode hwf, encode_op]
  cases i with
  | reservedCToF op a =>
    have h12 : 12 ≤ op.toNat := by simpa [Instr.wellFormed] using hwf
    exact iff_of_true (.inr (.inr ⟨op, a, rfl⟩)) (.inr (by rw [Instr.opcode]; omega))
  | reserved0 a => exact iff_of_true (.inl ⟨a, rfl⟩) (.inl rfl)
  | reservedB a => exact iff_of_true (.inr (.inl ⟨a, rfl⟩)) (.inr (by simp [Instr.opcode]))
  | _ => simp [Instr.opcode]

/-- Settles O45: the reserved opcodes decode to the reserved commands (`decode_reserved_iff`), which all answer alike. -/
theorem reservedOpcodesAnswerInvalid : Obligations.ReservedOpcodesAnswerInvalid :=
  ⟨fun w s h => exec_of_reserved s ((decode_reserved_iff w).2 h), fun _ _ _ => ⟨rfl, rfl, rfl⟩,
    fun w h => (decode_reserved_iff w).1 h⟩

/-- Settles O1, each word by evaluation. -/
theorem wordsOfTheSpecDecode : Obligations.WordsOfTheSpecDecode := by
  unfold Obligations.WordsOfTheSpecDecode
  exact ⟨by decide, by decide, by decide, by decide, by decide, by decide, by decide, by decide, by decide, by decide,
    by decide, by decide, by decide, by decide, rfl⟩

/-! ### The response word (R75, R77) -/

theorem resultOfCode_resultCode (r : Result) : resultOfCode (resultCode r) = some r := by
  cases r with
  | ok => rfl
  | failed why => cases why <;> rfl

/-- The reader of a code gives the result that has it; 5, 6 and 7 are nobody's. -/
theorem resultCode_of_resultOfCode {c : BitVec 3} {r : Result} (h : resultOfCode c = some r) : resultCode r = c := by
  unfold resultOfCode at h
  split_ifs at h with h0 h1 h2 h3 h4 <;> cases h
  exacts [h0.symm, h1.symm, h2.symm, h3.symm, h4.symm]

theorem resultOfCode_eq_none : ∀ c : BitVec 3, resultOfCode c = none ↔ 5 ≤ c.toNat := by decide

theorem responseOfWord_eq_some {w : RspWord} {r : Response} :
    responseOfWord w = some r ↔ resultOfCode (w.extractLsb' 32 3) = some r.result ∧ w.extractLsb' 0 32 = r.data := by
  obtain ⟨result, data⟩ := r
  unfold responseOfWord
  cases resultOfCode (w.extractLsb' 32 3) <;> simp

theorem responseOfWord_eq_none {w : RspWord} : responseOfWord w = none ↔ 5 ≤ (w.extractLsb' 32 3).toNat := by
  rw [← resultOfCode_eq_none]
  unfold responseOfWord
  cases resultOfCode (w.extractLsb' 32 3) <;> simp

/-- Settles O5: the two fields of a word are read back from it and together are the word; the codes are read by
`resultOfCode_resultCode`, `resultCode_of_resultOfCode` and `resultOfCode_eq_none`. -/
theorem responseWordRoundTrip : Obligations.ResponseWordRoundTrip := by
  refine ⟨fun r => ?_, fun w r h => ?_, fun w => ?_⟩
  · have hcode : (responseWord r).extractLsb' 32 3 = resultCode r.result := BitVec.extractLsb'_append_eq_left
    exact responseOfWord_eq_some.2 ⟨hcode ▸ resultOfCode_resultCode r.result, BitVec.extractLsb'_append_eq_right⟩
  · obtain ⟨hcode, hdata⟩ := responseOfWord_eq_some.1 h
    rw [responseWord, resultCode_of_resultOfCode hcode, ← hdata]
    exact BitVec.extractLsb'_append_extractLsb'
  · rw [responseOfWord_eq_none, BitVec.extractLsb'_toNat, Nat.shiftRight_eq_div_pow]
    have := w.isLt
    omega

/-! ### The assembler's words (R82) -/

theorem append_toNat {m n : Nat} (x : BitVec m) (y : BitVec n) : (x ++ y).toNat = x.toNat * 2 ^ n + y.toNat := by
  rw [BitVec.toNat_append, ← Nat.shiftLeft_add_eq_or_of_lt y.isLt, Nat.shiftLeft_eq]

theorem AsmLine.instr_wellFormed (l : AsmLine) : l.instr.wellFormed = true := by cases l <;> rfl

/-- Settles O8: a line is a well-formed instruction (`decode_encode`), and its word is opcode and operand (`append_toNat`). -/
theorem assembledLineDecodesToItsCommand : Obligations.AssembledLineDecodesToItsCommand := by
  have word (l : AsmLine) : l.word.toNat = l.instr.opcode.toNat * 2 ^ 32 + l.instr.operand.toNat := append_toNat _ _
  have hpsr (v : Half) : (0#16 ++ v : BitVec (16 + 16)).toNat = v.toNat := by rw [append_toNat]; simp
  refine ⟨fun l => decode_encode l.instr_wellFormed, by decide, fun d => ⟨?_, ?_, ?_⟩, fun v => ⟨?_, ?_⟩, fun v => ?_⟩
  all_goals simp [word, AsmLine.instr, Instr.opcode, Instr.operand]
  exact hpsr v

/-- Settles O6: the four classes of R78, one lemma each. -/
theorem floatOperandValueIsExact : Obligations.FloatOperandValueIsExact :=
  fun _ => ⟨fval_of_isNaN, fval_of_isPosInf, fval_of_isNegInf, fval_of_isFinite⟩

/-! ### One response for each command (R70, R75, R166) -/

/-- Settles O46: under the invariant the binding of the block in front meets R21. -/
theorem commandsNeverStopUnderInvariant : Obligations.CommandsNeverStopUnderInvariant :=
  fun i _ hi => exec_next_of_bindingOk i hi.front

/-- R127, R130: the resolver fails with one of two codes. -/
theorem resolve_eq_failed {b : Nat} {us : FVal} {why : Failure} (h : resolve b us = .failed why) :
    why = .invalidParameter ∨ why = .configurationUnattainable := by
  unfold resolve resolveTicks at h
  split_ifs at h
  · cases h; exact .inl rfl
  · cases us with
    | nan | negInf => cases h; exact .inl rfl
    | posInf => cases h; exact .inr rfl
    | fin n d =>
      dsimp only at h
      split_ifs at h <;> cases h
      · exact .inl rfl
      · exact .inr rfl

/-- What SET_AUTO_PW answers: Ok, or one of R127's, R130's and R131's codes. -/
theorem execSetAutoPw_replies {us : Word} {s t : State} (h : execSetAutoPw us s = .next t) :
    ∃ r ∈ (Instr.setAutoPw us).mayEndWith s.blk.straps.errPeriodZero, t.replies = s.answered r 0 := by
  unfold execSetAutoPw at h
  cases hr : resolve s.readBusclk.toNat (fval us) with
  | failed why =>
    rw [hr] at h
    cases h
    exact ⟨.failed why, by obtain rfl | rfl := resolve_eq_failed hr <;> simp [Instr.mayEndWith], rfl⟩
  | found psc arr =>
    cases hk : s.channel with
    | none =>
      rw [hr, hk] at h
      cases h
      exact ⟨.failed .unsupportedChannel, by simp [Instr.mayEndWith], rfl⟩
    | some k =>
      rw [hr, hk] at h
      cases h
      exact ⟨.ok, by simp [Instr.mayEndWith], rfl⟩

/-- The answer after a start or stop call (R154). -/
theorem startStopAnswer_replies (s : State) (k : Channel) (v : Bool) :
    ∃ r ∈ [Result.ok, .failed .unsupportedChannel, .failed .hardwareOperationFailed],
      (startStopAnswer (s.callStartStop k v)).replies = s.answered r 0 := by
  unfold startStopAnswer
  split_ifs
  · exact ⟨.ok, by simp, rfl⟩
  · exact ⟨.failed .hardwareOperationFailed, by simp, rfl⟩

/-- R75, R166: every command but GET_TIM gives one response, `DATA` 0, with a result of its row of R166's table. -/
theorem exec_replies {i : Instr} (hi : ∀ a, i ≠ .getTim a) {s t : State} (h : exec i s = .next t) :
    ∃ r ∈ i.mayEndWith s.blk.straps.errPeriodZero, t.replies = s.answered r 0 := by
  cases i with
  | getTim a => exact absurd rfl (hi a)
  | init a =>
    obtain ⟨g, e | ⟨-, e⟩ | ⟨-, e⟩⟩ := execInit_cases a s <;> cases e.symm.trans h
    · exact ⟨.failed .hardwareOperationFailed, by simp [Instr.mayEndWith], rfl⟩
    · exact ⟨.failed .unsupportedChannel, by simp [Instr.mayEndWith], rfl⟩
    · exact ⟨.ok, by simp [Instr.mayEndWith], rfl⟩
  | setDuty d =>
    obtain ⟨f, hf, rfl⟩ | ⟨k, -, -, rfl⟩ := execSetDuty_eq_next h
    · exact ⟨.failed f, by simpa [Instr.mayEndWith] using hf, rfl⟩
    · exact ⟨.ok, by simp [Instr.mayEndWith], rfl⟩
  | setAutoFreq hz =>
    have all : ∀ r : Result, r ∈ (Instr.setAutoFreq hz).mayEndWith s.blk.straps.errPeriodZero := by
      rintro (_ | (_ | _ | _ | _)) <;> simp [Instr.mayEndWith]
    cases h
    exact ⟨_, all _, rfl⟩
  | setAutoPw us => exact execSetAutoPw_replies h
  | setCcr v =>
    obtain ⟨-, e⟩ | ⟨k, -, e⟩ := execSetCcr_cases v s <;> cases e.symm.trans h
    · exact ⟨.failed .unsupportedChannel, by simp [Instr.mayEndWith], rfl⟩
    · exact ⟨.ok, by simp [Instr.mayEndWith], rfl⟩
  | enable a =>
    obtain ⟨-, e⟩ | ⟨k, -, e⟩ := execEnable_cases a s <;> cases e.symm.trans h
    · exact ⟨.failed .unsupportedChannel, by simp [Instr.mayEndWith], rfl⟩
    · exact startStopAnswer_replies s k true
  | disable a =>
    obtain ⟨-, e⟩ | ⟨k, -, e⟩ := execDisable_cases a s <;> cases e.symm.trans h
    · exact ⟨.failed .unsupportedChannel, by simp [Instr.mayEndWith], rfl⟩
    · exact startStopAnswer_replies s k false
  | setArr | setPsr => cases h; exact ⟨.ok, List.mem_singleton_self _, rfl⟩
  | reserved0 | reservedB | reservedCToF => cases h; exact ⟨.failed .invalidParameter, List.mem_singleton_self _, rfl⟩

/-- Settles O48: GET_TIM answers Ok with its handle, every other command as `exec_replies` says. -/
theorem everyCommandGivesOneAllowedResponse : Obligations.EveryCommandGivesOneAllowedResponse := by
  intro i s t h
  by_cases hi : ∃ a, i = .getTim a
  · obtain ⟨a, rfl⟩ := hi
    cases h
    exact ⟨.ok, s.blk.straps.timId, rfl, List.mem_singleton_self _, fun hne => absurd rfl (hne a), fun hne => absurd rfl hne⟩
  · obtain ⟨r, hr, ht⟩ := exec_replies (fun a ha => hi ⟨a, ha⟩) h
    exact ⟨r, 0, ht, hr, fun _ => rfl, fun _ => rfl⟩

/-! ### Lists of commands (R70, R171) -/

/-- Under the invariant a command to a port that exists is answered there, and leaves the invariant and the ports. -/
theorem State.Inv.step_command {s : State} {p : Nat} {w : CmdWord} {rest : List HostEvent} (hi : s.Inv)
    (hq : s.queue = .command p w :: rest) (hp : ∃ b ∈ s.blocks, b.port = p) :
    ∃ t, step s = .next t ∧ t.Inv ∧ t.queue = rest ∧ (t.blocks.map (·.port)).Perm (s.blocks.map (·.port)) ∧
      t.replies.map (·.port) = s.replies.map (·.port) ++ [p] := by
  obtain ⟨c, hc⟩ : ∃ c, s.blockAt p = some c := by
    refine Option.ne_none_iff_exists'.1 fun hnone => ?_
    obtain ⟨b, hb, hport⟩ := hp
    exact State.blockAt_eq_none.1 hnone b hb hport
  obtain ⟨u, hu, hf, -⟩ := hi.exists_inFront hc rest
  obtain ⟨t, ht⟩ := exec_next_of_bindingOk (decode w) hf.inv.front
  obtain ⟨r, d, hreplies, -⟩ := everyCommandGivesOneAllowedResponse _ _ _ ht
  have hx := exec_writesWithin hf.inv.front ht
  refine ⟨t, (Machine.step_command hq hu).trans ht, hf.inv.exec ht, hx.queue.trans hf.queue, ?_, ?_⟩
  · rw [State.blocks_ports_congr hx.others hx.port hx.present]
    exact (State.select_blocks_perm hu).map _
  · rw [hreplies, State.answered_eq_append, List.map_append, hf.replies, List.map_singleton, hf.port]

theorem run_succ_of_step {s t : State} (h : step s = .next t) (n : Nat) :
    Host.Core.run core (n + 1) s = Host.Core.run core n t := by
  have hcore : core.step s = .next t := h
  simp only [Host.Core.run, hcore]

/-- Settles O56: induction over the commands, each step by `State.Inv.step_command`. -/
theorem commandListsRunToTheirEnd : Obligations.CommandListsRunToTheirEnd := by
  intro cmds
  induction cmds with
  | nil =>
    intro s hi hq _
    exact ⟨s, rfl, hq, hi, (List.append_nil _).symm⟩
  | cons c cmds ih =>
    intro s hi hq hports
    obtain ⟨hport, hrest⟩ := List.forall_mem_cons.1 hports
    obtain ⟨t, ht, hti, htq, hperm, hreplies⟩ := hi.step_command hq hport
    have htports : ∀ c ∈ cmds, ∃ b ∈ t.blocks, b.port = c.1 := fun c hc =>
      List.mem_map.1 (hperm.mem_iff.2 (List.mem_map.2 (hrest c hc)))
    obtain ⟨u, hu, huq, hui, hureplies⟩ := ih t hti htq htports
    refine ⟨u, (run_succ_of_step ht _).trans hu, huq, hui, ?_⟩
    rw [hureplies, hreplies, List.append_assoc]
    rfl

end Sys2Proof.Machine

/-! # The decimal numbers of the assembler (R82)

The finite patterns of one sign are the points of a grid, numbered by their bits 30:0; the assembler's number is a nearest point,
the even one of two. -/

namespace Sys2Proof.Machine

open Sys2Proof

/-! ### The grid of the patterns (R78) -/

/-- The value of the pattern with bits 30:0 `m`, in units of `2^(-149)`. From `m = 0x7F800000` on it goes on as if the exponent
had no bound, which is how the assembler rounds before it caps the pattern. -/
def gridUnits (m : Nat) : Nat := (m - (m / 2 ^ 23 - 1) * 2 ^ 23) * 2 ^ (m / 2 ^ 23 - 1)

/-- The points of spacing `2^t`, both ends included. -/
theorem gridUnits_eq {t n : Nat} (hlo : t = 0 ∨ 2 ^ 23 ≤ n) (hhi : n ≤ 2 ^ 24) : gridUnits (t * 2 ^ 23 + n) = n * 2 ^ t := by
  unfold gridUnits
  obtain hlt | rfl := hhi.lt_or_eq
  · have he : (t * 2 ^ 23 + n) / 2 ^ 23 - 1 = t := by omega
    rw [he, Nat.add_sub_cancel_left]
  · have he : (t * 2 ^ 23 + 2 ^ 24) / 2 ^ 23 - 1 = t + 1 := by omega
    have hn : t * 2 ^ 23 + 2 ^ 24 - (t + 1) * 2 ^ 23 = 2 ^ 23 := by omega
    rw [he, hn, pow_succ 2 t]
    ring

/-- Every point has a spacing. -/
theorem exists_spacing (m : Nat) : ∃ t n, m = t * 2 ^ 23 + n ∧ (t = 0 ∨ 2 ^ 23 ≤ n) ∧ n < 2 ^ 24 :=
  ⟨m / 2 ^ 23 - 1, m - (m / 2 ^ 23 - 1) * 2 ^ 23, by omega, by omega, by omega⟩

theorem gridUnits_strictMono : StrictMono gridUnits := by
  refine strictMono_nat_of_lt_succ fun m => ?_
  obtain ⟨t, n, rfl, hlo, hhi⟩ := exists_spacing m
  rw [add_assoc, gridUnits_eq hlo hhi.le, gridUnits_eq (hlo.imp_right Nat.le_succ_of_le) hhi]
  exact Nat.mul_lt_mul_of_pos_right (Nat.lt_succ_self n) (Nat.two_pow_pos t)

/-- From `2^(23 + t)` on the spacing is `2^t` or a multiple of it. -/
theorem two_pow_dvd_gridUnits {t m : Nat} (h : t = 0 ∨ 2 ^ 23 * 2 ^ t ≤ gridUnits m) : 2 ^ t ∣ gridUnits m := by
  obtain rfl | h := h
  · exact one_dvd _
  obtain ⟨u, n, rfl, hlo, hhi⟩ := exists_spacing m
  rw [gridUnits_eq hlo hhi.le] at h ⊢
  have hlt : 2 ^ (23 + t) < 2 ^ (24 + u) := by
    rw [pow_add, pow_add]
    exact h.trans_lt (Nat.mul_lt_mul_of_pos_right hhi (Nat.two_pow_pos u))
  have htu : t ≤ u := by
    have := (Nat.pow_lt_pow_iff_right (by norm_num)).1 hlt
    omega
  exact Dvd.dvd.mul_left (pow_dvd_pow 2 htu) n

theorem isFinite_iff (b : Word) : IsFinite b ↔ b.toNat % 2 ^ 31 < 0x7F800000 := by
  unfold IsFinite exponentOf
  omega

/-- R78's formula, on the grid. -/
theorem f32Value_eq_gridUnits (b : Word) : f32Value b = signOf b * (gridUnits (b.toNat % 2 ^ 31) / 2 ^ 149) := by
  have hm : b.toNat % 2 ^ 31 = exponentOf b * 2 ^ 23 + fractionOf b := by unfold exponentOf fractionOf; omega
  have hf : fractionOf b < 2 ^ 23 := Nat.mod_lt _ (by norm_num)
  rw [f32Value, hm]
  by_cases he : exponentOf b = 0
  · have hu : gridUnits (exponentOf b * 2 ^ 23 + fractionOf b) = fractionOf b * 2 ^ 0 := by
      rw [he]
      exact gridUnits_eq (.inl rfl) (by omega)
    rw [if_pos he, hu, zpow_neg, pow_zero, mul_one, mul_assoc, div_eq_mul_inv]
    norm_cast
  · obtain ⟨t, ht⟩ := Nat.exists_eq_succ_of_ne_zero he
    have hu : gridUnits (exponentOf b * 2 ^ 23 + fractionOf b) = (2 ^ 23 + fractionOf b) * 2 ^ t := by
      rw [ht, Nat.succ_mul, add_assoc]
      exact gridUnits_eq (.inr (by omega)) (by omega)
    have hz : ((exponentOf b : ℕ) : ℤ) - 150 = (t : ℤ) - (149 : ℕ) := by rw [ht]; push_cast; ring
    rw [if_neg he, hu, hz, zpow_sub₀ two_ne_zero, zpow_natCast, zpow_natCast]
    push_cast
    ring

/-! ### Rounding to the nearest integer -/

/-- `n` is an integer nearest to `y`, the even one of two. -/
structure RoundsTo (y : ℚ) (n : Nat) : Prop where
  half : |(n : ℚ) - y| ≤ 1 / 2
  even : |(n : ℚ) - y| = 1 / 2 → n % 2 = 0

theorem RoundsTo.of_lt {y : ℚ} {n : Nat} (h : |(n : ℚ) - y| < 1 / 2) : RoundsTo y n :=
  ⟨h.le, fun heq => absurd heq h.ne⟩

/-- The three branches are the three ways the remainder can compare with half the divisor. -/
theorem roundsTo_divNearestEven {num den : Nat} (hden : 0 < den) :
    RoundsTo ((num : ℚ) / den) (divNearestEven num den) := by
  have hden' : (0 : ℚ) < den := Nat.cast_pos.2 hden
  have hy : (num : ℚ) / den = (num / den : ℕ) + ((num % den : ℕ) : ℚ) / den := by
    rw [div_eq_iff hden'.ne', add_mul, div_mul_cancel₀ _ hden'.ne']
    exact_mod_cast (Nat.div_add_mod' num den).symm
  have hr0 : (0 : ℚ) ≤ ((num % den : ℕ) : ℚ) / den := by positivity
  have hr1 : ((num % den : ℕ) : ℚ) / den < 1 := by
    rw [div_lt_one hden']
    exact_mod_cast Nat.mod_lt num hden
  have hcmp : den < 2 * (num % den) ↔ 1 / 2 < ((num % den : ℕ) : ℚ) / den := by
    rw [div_lt_div_iff₀ two_pos hden', one_mul, mul_comm _ (2 : ℚ)]
    norm_cast
  have htie : 2 * (num % den) = den ↔ ((num % den : ℕ) : ℚ) / den = 1 / 2 := by
    rw [div_eq_div_iff hden'.ne' two_ne_zero, one_mul, mul_comm _ (2 : ℚ)]
    norm_cast
  simp only [divNearestEven]
  rw [hy]
  generalize ((num % den : ℕ) : ℚ) / den = r at *
  split_ifs with h1 h2
  · have := hcmp.1 h1
    refine .of_lt (abs_lt.2 ⟨?_, ?_⟩) <;> push_cast <;> linarith
  · rw [htie.1 h2]
    refine ⟨?_, fun _ => by omega⟩
    obtain h | h := Nat.mod_two_eq_zero_or_one (num / den) <;> rw [h] <;> norm_num
  · have := lt_of_le_of_ne (not_lt.1 (hcmp.not.1 h1)) (htie.not.1 h2)
    refine .of_lt (abs_lt.2 ⟨?_, ?_⟩) <;> linarith

/-- No integer is nearer. -/
theorem RoundsTo.nearest {y : ℚ} {n : Nat} (h : RoundsTo y n) (j : Nat) :
    |(n : ℚ) - y| ≤ |(j : ℚ) - y| ∧ (|(n : ℚ) - y| = |(j : ℚ) - y| → j ≠ n → n % 2 = 0) := by
  by_cases hj : j = n
  · subst hj
    exact ⟨le_rfl, fun _ hne => absurd rfl hne⟩
  · have hgap : (1 : ℚ) ≤ |(j : ℚ) - n| := by
      have h1 : (1 : ℤ) ≤ |(j : ℤ) - n| := Int.one_le_abs (by omega)
      exact_mod_cast h1
    have htri : |(j : ℚ) - n| ≤ |(j : ℚ) - y| + |(n : ℚ) - y| := by
      rw [abs_sub_comm (n : ℚ) y]
      exact abs_sub_le _ _ _
    have hhalf := h.half
    exact ⟨by linarith, fun heq _ => h.even (by linarith)⟩

/-- Rounding does not pass an integer. -/
theorem RoundsTo.le_of_le {y : ℚ} {n c : Nat} (h : RoundsTo y n) (hc : (c : ℚ) ≤ y) : c ≤ n := by
  have hlt : (c : ℚ) < n + 1 := by linarith [(abs_le.1 h.half).1]
  exact Nat.lt_succ_iff.1 (by exact_mod_cast hlt)

theorem RoundsTo.le_of_ge {y : ℚ} {n c : Nat} (h : RoundsTo y n) (hc : y ≤ c) : n ≤ c := by
  have hlt : (n : ℚ) < c + 1 := by linarith [(abs_le.1 h.half).2]
  exact Nat.lt_succ_iff.1 (by exact_mod_cast hlt)

/-! ### Rounding to the nearest point -/

/-- `m` is a point nearest to `x`, the even one of two. -/
def IsNearest (m : Nat) (x : ℚ) : Prop :=
  ∀ k, |(gridUnits m : ℚ) - x| ≤ |(gridUnits k : ℚ) - x| ∧
    (|(gridUnits m : ℚ) - x| = |(gridUnits k : ℚ) - x| → k ≠ m → m % 2 = 0)

/-- The nearest multiple of the spacing at `x` is the nearest point: the points below the least one of that spacing are
farther off, `x` being above it. -/
theorem isNearest_of_roundsTo {t n : Nat} {y : ℚ} (hround : RoundsTo y n) (hlo : t = 0 ∨ 2 ^ 23 ≤ y) (hhi : y < 2 ^ 24) :
    IsNearest (t * 2 ^ 23 + n) (y * 2 ^ t) := by
  have hnlo : t = 0 ∨ 2 ^ 23 ≤ n := hlo.imp_right fun h => hround.le_of_le (by exact_mod_cast h)
  have hnhi : n ≤ 2 ^ 24 := hround.le_of_ge (by exact_mod_cast hhi.le)
  have hpos : (0 : ℚ) < 2 ^ t := by positivity
  have scale (v : ℚ) : |v * 2 ^ t - y * 2 ^ t| = |v - y| * 2 ^ t := by rw [← sub_mul, abs_mul, abs_of_pos hpos]
  have hm : gridUnits (t * 2 ^ 23 + n) = n * 2 ^ t := gridUnits_eq hnlo hnhi
  have hmq : (gridUnits (t * 2 ^ 23 + n) : ℚ) = n * 2 ^ t := by rw [hm]; push_cast; rfl
  intro k
  by_cases hk : t = 0 ∨ 2 ^ 23 * 2 ^ t ≤ gridUnits k
  · obtain ⟨j, hj⟩ := two_pow_dvd_gridUnits hk
    have hkq : (gridUnits k : ℚ) = j * 2 ^ t := by rw [hj]; push_cast; ring
    obtain ⟨hle, heven⟩ := hround.nearest j
    rw [hmq, hkq, scale, scale]
    refine ⟨mul_le_mul_of_nonneg_right hle hpos.le, fun heq hne => ?_⟩
    have hjn : j ≠ n := by
      rintro rfl
      exact hne (gridUnits_strictMono.injective (by rw [hm, hj, mul_comm]))
    have := heven (mul_right_cancel₀ hpos.ne' heq) hjn
    omega
  · rw [not_or, not_le] at hk
    obtain ⟨ht, hlt⟩ := hk
    have hy := hlo.resolve_left ht
    have hfar : |(n : ℚ) - y| * 2 ^ t < |(gridUnits k : ℚ) - y * 2 ^ t| := by
      have hltq : (gridUnits k : ℚ) < 2 ^ 23 * 2 ^ t := by exact_mod_cast hlt
      have hleast : |(n : ℚ) - y| ≤ y - 2 ^ 23 := by
        have h := (hround.nearest (2 ^ 23)).1
        rwa [Nat.cast_pow, Nat.cast_ofNat, abs_of_nonpos (sub_nonpos.2 hy), neg_sub] at h
      calc |(n : ℚ) - y| * 2 ^ t ≤ (y - 2 ^ 23) * 2 ^ t := mul_le_mul_of_nonneg_right hleast hpos.le
        _ < y * 2 ^ t - gridUnits k := by linarith
        _ ≤ |(gridUnits k : ℚ) - y * 2 ^ t| := by rw [abs_sub_comm]; exact le_abs_self _
    rw [hmq, scale]
    exact ⟨hfar.le, fun heq => absurd heq hfar.ne⟩

/-- The infinity's point, one spacing past the largest finite pattern's. -/
theorem gridUnits_infinity : gridUnits 0x7F800000 = 2 ^ 24 * 2 ^ 253 :=
  gridUnits_eq (t := 253) (n := 2 ^ 24) (.inr (by norm_num)) le_rfl

theorem gridUnits_largest : gridUnits 0x7F7FFFFF = (2 ^ 24 - 1) * 2 ^ 253 :=
  gridUnits_eq (t := 253) (n := 2 ^ 24 - 1) (.inr (by norm_num)) (by norm_num)

namespace IsNearest

variable {m : Nat} {x : ℚ}

/-- A point is nearest to itself alone. -/
theorem eq_of_gridUnits {k : Nat} (h : IsNearest m (gridUnits k)) : m = k := by
  have hle := (h k).1
  rw [sub_self, abs_zero, abs_nonpos_iff, sub_eq_zero] at hle
  exact gridUnits_strictMono.injective (by exact_mod_cast hle)

/-- R82's overflow point: the nearest point is no finite pattern from half a spacing past the largest one on. On that half
way itself the largest one, an odd pattern, gives way to the infinity. -/
theorem lt_infinity_iff (h : IsNearest m x) : m < 0x7F800000 ↔ x < (2 ^ 24 - 1 / 2) * 2 ^ 253 := by
  have hinf : (gridUnits 0x7F800000 : ℚ) = 2 ^ 24 * 2 ^ 253 := by exact_mod_cast gridUnits_infinity
  have hmax : (gridUnits 0x7F7FFFFF : ℚ) = (2 ^ 24 - 1) * 2 ^ 253 := by rw [gridUnits_largest]; norm_num
  have hpos : (0 : ℚ) < 2 ^ 253 := by positivity
  generalize (2 : ℚ) ^ 253 = p at *
  refine ⟨fun hm => ?_, fun hx => ?_⟩
  · by_contra hx
    have hle : (gridUnits m : ℚ) ≤ gridUnits 0x7F7FFFFF := by
      exact_mod_cast gridUnits_strictMono.monotone (Nat.le_of_lt_succ hm)
    obtain ⟨hnear, heven⟩ := h 0x7F800000
    rw [abs_of_nonpos (a := (gridUnits m : ℚ) - x) (by linarith)] at hnear heven
    obtain hi | hi := le_total x (gridUnits 0x7F800000)
    · rw [abs_of_nonneg (sub_nonneg.2 hi)] at hnear heven
      have hlast : (gridUnits m : ℚ) = gridUnits 0x7F7FFFFF := by linarith
      have hm' : m = 0x7F7FFFFF := gridUnits_strictMono.injective (by exact_mod_cast hlast)
      have := heven (by linarith) (by omega)
      omega
    · rw [abs_of_nonpos (sub_nonpos.2 hi)] at hnear
      linarith
  · by_contra hm
    have hge : (gridUnits 0x7F800000 : ℚ) ≤ gridUnits m := by
      exact_mod_cast gridUnits_strictMono.monotone (not_lt.1 hm)
    have hnear := (h 0x7F7FFFFF).1
    rw [abs_of_nonneg (by linarith), le_abs'] at hnear
    obtain hn | hn := hnear <;> linarith

/-- No pattern is nearer, one of the other sign neither (`-gridUnits k`). -/
theorem signed (h : IsNearest m x) (hx : 0 ≤ x) {k : Nat} {z : ℚ} (hz : z = gridUnits k ∨ z = -gridUnits k) :
    |(gridUnits m : ℚ) - x| ≤ |z - x| ∧ (|(gridUnits m : ℚ) - x| = |z - x| → z ≠ gridUnits m → m % 2 = 0) := by
  by_cases hk : z = gridUnits k
  · subst hk
    exact ⟨(h k).1, fun heq hne => (h k).2 heq (by rintro rfl; exact hne rfl)⟩
  · have hzero : |(gridUnits m : ℚ) - x| ≤ x := by
      have h0 := (h 0).1
      rwa [show gridUnits 0 = 0 from rfl, Nat.cast_zero, zero_sub, abs_neg, abs_of_nonneg hx] at h0
    have hneg : z < 0 := by
      obtain rfl := hz.resolve_left hk
      refine neg_lt_zero.2 ((Nat.cast_nonneg _).lt_of_ne fun h0 => hk ?_)
      rw [← h0, neg_zero]
    have hfar : x < |z - x| := by
      rw [abs_of_neg (by linarith)]
      linarith
    exact ⟨(hzero.trans_lt hfar).le, fun heq => absurd heq (hzero.trans_lt hfar).ne⟩

end IsNearest

/-! ### The assembled pattern (R82) -/

/-- The exponent field's part of the assembler's rounding: the spacing at `num / den` is `2^(t - 149)`. -/
def spacingOf (num den : Nat) : Nat := Nat.log2 (num * 2 ^ 149 / den) - 23

/-- Bits 30:0 before the cap at infinity. -/
def roundedMagnitude (num den : Nat) : Nat :=
  spacingOf num den * 2 ^ 23 + divNearestEven (num * 2 ^ 149) (den * 2 ^ spacingOf num den)

theorem nearestMagnitude_eq_min (num den : Nat) : nearestMagnitude num den = min (roundedMagnitude num den) 0x7F800000 := rfl

/-- The spacing is the one of the points around the number. -/
theorem spacingOf_bounds {num den : Nat} (hden : 0 < den) :
    (spacingOf num den = 0 ∨ 2 ^ 23 * (den * 2 ^ spacingOf num den) ≤ num * 2 ^ 149) ∧
      num * 2 ^ 149 < 2 ^ 24 * (den * 2 ^ spacingOf num den) := by
  have key (c t : Nat) : c * (den * 2 ^ t) = c * 2 ^ t * den := by ring
  rw [key, key, ← Nat.le_div_iff_mul_le hden, ← Nat.div_lt_iff_lt_mul hden, ← pow_add, ← pow_add, spacingOf]
  generalize num * 2 ^ 149 / den = N
  constructor
  · by_cases hl : N.log2 ≤ 23
    · exact .inl (by omega)
    · have hN : N ≠ 0 := by
        rintro rfl
        exact hl (by simp)
      rw [Nat.add_sub_cancel' (by omega)]
      exact .inr (Nat.log2_self_le hN)
  · exact Nat.lt_log2_self.trans_le (Nat.pow_le_pow_right (by norm_num) (by omega))

theorem isNearest_roundedMagnitude {num den : Nat} (hden : 0 < den) :
    IsNearest (roundedMagnitude num den) ((num : ℚ) / den * 2 ^ 149) := by
  obtain ⟨hlo, hhi⟩ := spacingOf_bounds (num := num) hden
  rw [roundedMagnitude]
  generalize spacingOf num den = t at *
  have hden' : (0 : ℚ) < (den * 2 ^ t : ℕ) := Nat.cast_pos.2 (by positivity)
  have hx : (num : ℚ) / den * 2 ^ 149 = ((num * 2 ^ 149 : ℕ) : ℚ) / (den * 2 ^ t : ℕ) * 2 ^ t := by
    have ht : (2 : ℚ) ^ t ≠ 0 := by positivity
    rw [Nat.cast_mul, Nat.cast_mul, Nat.cast_pow, Nat.cast_pow, Nat.cast_ofNat, ← div_div, div_mul_cancel₀ _ ht,
      mul_div_right_comm]
  rw [hx]
  refine isNearest_of_roundsTo (roundsTo_divNearestEven (by positivity)) (hlo.imp_right fun h => ?_) ?_
  · rw [le_div_iff₀ hden']
    exact_mod_cast h
  · rw [div_lt_iff₀ hden']
    exact_mod_cast hhi

theorem overflow_point_eq (x : ℚ) : x * 2 ^ 149 < (2 ^ 24 - 1 / 2) * 2 ^ 253 ↔ x < 2 ^ 128 - 2 ^ 103 := by
  have h : ((2 : ℚ) ^ 24 - 1 / 2) * 2 ^ 253 = (2 ^ 128 - 2 ^ 103) * 2 ^ 149 := by norm_num
  rw [h, mul_lt_mul_iff_of_pos_right (by positivity)]

/-- Below the overflow point the cap is not met; from there on the pattern is infinity. -/
theorem nearestMagnitude_of_lt {num den : Nat} (hden : 0 < den) (h : (num : ℚ) / den < 2 ^ 128 - 2 ^ 103) :
    nearestMagnitude num den = roundedMagnitude num den ∧ roundedMagnitude num den < 0x7F800000 := by
  have hlt := (isNearest_roundedMagnitude hden).lt_infinity_iff.2 ((overflow_point_eq _).2 h)
  exact ⟨min_eq_left hlt.le, hlt⟩

theorem nearestMagnitude_of_ge {num den : Nat} (hden : 0 < den) (h : 2 ^ 128 - 2 ^ 103 ≤ (num : ℚ) / den) :
    nearestMagnitude num den = 0x7F800000 := by
  have hge := (isNearest_roundedMagnitude hden).lt_infinity_iff.not.2 ((overflow_point_eq _).not.2 h.not_gt)
  exact min_eq_right (not_lt.1 hge)

theorem decimal_bits_toNat (negative : Bool) (num den : Nat) :
    (FloatLit.decimal negative num den).bits.toNat = (if negative then 2 ^ 31 else 0) + nearestMagnitude num den := by
  have hle : nearestMagnitude num den ≤ 0x7F800000 := min_le_right _ _
  rw [FloatLit.bits, BitVec.toNat_ofNat, Nat.mod_eq_of_lt]
  split_ifs <;> omega

/-- The sign bit is the number's own, and the rest its magnitude. -/
theorem decimal_bits_fields (negative : Bool) (num den : Nat) :
    (2 ^ 31 ≤ (FloatLit.decimal negative num den).bits.toNat ↔ negative = true) ∧
      (FloatLit.decimal negative num den).bits.toNat % 2 ^ 31 = nearestMagnitude num den := by
  have hle : nearestMagnitude num den ≤ 0x7F800000 := min_le_right _ _
  rw [decimal_bits_toNat]
  cases negative <;> simp <;> omega

theorem signOf_eq (b : Word) : signOf b = 1 ∨ signOf b = -1 := by
  unfold signOf
  split_ifs <;> simp

theorem abs_f32Value (b : Word) : |f32Value b| = gridUnits (b.toNat % 2 ^ 31) / 2 ^ 149 := by
  have hs : |signOf b| = 1 := by obtain h | h := signOf_eq b <;> simp [h]
  rw [f32Value_eq_gridUnits, abs_mul, hs, one_mul, abs_of_nonneg (by positivity)]

/-- Settles O7: the pattern's point is nearest to itself alone (`IsNearest.eq_of_gridUnits`), and it is finite, so the cap is
not met. -/
theorem decimalOfFinitePatternAssemblesBack : Obligations.DecimalOfFinitePatternAssemblesBack := by
  intro b num den hfin hden hval
  have hx : (num : ℚ) / den * 2 ^ 149 = gridUnits (b.toNat % 2 ^ 31) := by
    rw [← hval, abs_f32Value, div_mul_cancel₀ _ (by positivity)]
  have hm : roundedMagnitude num den = b.toNat % 2 ^ 31 :=
    IsNearest.eq_of_gridUnits (hx ▸ isNearest_roundedMagnitude hden)
  have hcap : nearestMagnitude num den = b.toNat % 2 ^ 31 := by
    rw [nearestMagnitude_eq_min, hm, min_eq_left ((isFinite_iff b).1 hfin).le]
  apply BitVec.eq_of_toNat_eq
  rw [decimal_bits_toNat, hcap]
  have := b.isLt
  simp only [decide_eq_true_eq]
  split_ifs <;> omega

/-- A pattern's value in units of `2^(-149)`, whichever sign is taken out of it, is a point or the negative of one. -/
theorem scaled_f32Value {σ : ℚ} (hσ : σ = 1 ∨ σ = -1) (c : Word) :
    σ * f32Value c * 2 ^ 149 = gridUnits (c.toNat % 2 ^ 31) ∨
      σ * f32Value c * 2 ^ 149 = -gridUnits (c.toNat % 2 ^ 31) := by
  have hpos : (2 : ℚ) ^ 149 ≠ 0 := by positivity
  rw [f32Value_eq_gridUnits, mul_assoc, mul_assoc, div_mul_cancel₀ _ hpos]
  obtain rfl | rfl := hσ <;> obtain h | h := signOf_eq c <;> simp [h]

/-- Distances in those units. -/
theorem abs_scaled_sub {σ : ℚ} (hσ : σ = 1 ∨ σ = -1) (v x : ℚ) :
    |σ * v * 2 ^ 149 - x * 2 ^ 149| = |v - σ * x| * 2 ^ 149 := by
  have hσσ : σ * σ = 1 := by obtain rfl | rfl := hσ <;> norm_num
  have habs : |σ| = 1 := by obtain rfl | rfl := hσ <;> norm_num
  have h : σ * v * 2 ^ 149 - x * 2 ^ 149 = σ * (v - σ * x) * 2 ^ 149 := by linear_combination (x * 2 ^ 149) * hσσ
  rw [h, abs_mul, abs_mul, habs, one_mul, abs_of_pos (by positivity : (0 : ℚ) < 2 ^ 149)]

/-- Settles O57: the assembler's magnitude is the nearest point (`isNearest_roundedMagnitude`) and under the cap just below the
overflow point (`IsNearest.lt_infinity_iff`); that no pattern of the other sign is nearer is `IsNearest.signed`. -/
theorem decimalAssemblesToTheNearestPattern : Obligations.DecimalAssemblesToTheNearestPattern := by
  refine ⟨fun _ => rfl, fun negative num den b c hden hlt hb _ => ?_, fun negative num den hden hge => ?_⟩
  · subst hb
    obtain ⟨hcap, hfin⟩ := nearestMagnitude_of_lt hden hlt
    obtain ⟨hsign, hmag⟩ := decimal_bits_fields negative num den
    rw [hcap] at hmag
    generalize (FloatLit.decimal negative num den).bits = b at *
    have hσ : (if negative = true then (-1 : ℚ) else 1) = signOf b := by simp only [signOf, hsign]
    have hb : signOf b * f32Value b * 2 ^ 149 = gridUnits (roundedMagnitude num den) := by
      have hss : signOf b * signOf b = 1 := by obtain h | h := signOf_eq b <;> simp [h]
      rw [f32Value_eq_gridUnits, hmag, ← mul_assoc, hss, one_mul, div_mul_cancel₀ _ (by positivity)]
    obtain ⟨hnear, heven⟩ := (isNearest_roundedMagnitude (num := num) hden).signed (by positivity)
      (scaled_f32Value (signOf_eq b) c)
    rw [← hb, abs_scaled_sub (signOf_eq b), abs_scaled_sub (signOf_eq b)] at hnear heven
    rw [hσ]
    refine ⟨(isFinite_iff b).2 (hmag ▸ hfin), hsign, le_of_mul_le_mul_right hnear (by positivity), fun heq hne => ?_⟩
    have hm : roundedMagnitude num den % 2 = 0 := by
      refine heven (by rw [heq]) fun h => hne ?_
      have hs : signOf b ≠ 0 := by obtain h | h := signOf_eq b <;> simp [h]
      exact mul_left_cancel₀ hs (mul_right_cancel₀ (by positivity) h)
    omega
  · apply BitVec.eq_of_toNat_eq
    rw [decimal_bits_toNat, nearestMagnitude_of_ge hden hge]
    cases negative <;> rfl

end Sys2Proof.Machine

/-! # INIT and GET_TIM (spec/40_init_and_accessor.md)

`TR_INIT` is idempotent, INIT's answer depends on the timer resource and the straps alone, and of all commands only SET_DUTY
looks at the binding. -/

namespace Sys2Proof

/-! ### `TR_INIT` (R101) -/

/-- Where the open function answers the same on the state it leaves, `TR_INIT` is that function. -/
theorem Timer.init_of_idempotent {tr : Timer}
    (h : Config.trInitRaw (tr.withRegs (Config.trInitRaw tr).2) = Config.trInitRaw tr) :
    tr.init = ((Config.trInitRaw tr).1, tr.withRegs (Config.trInitRaw tr).2) := if_pos h

/-- Elsewhere it is the reference platform's answer. -/
theorem Timer.init_of_not_idempotent {tr : Timer}
    (h : Config.trInitRaw (tr.withRegs (Config.trInitRaw tr).2) ≠ Config.trInitRaw tr) : tr.init = (.ok, tr) := if_neg h

/-- R101 (b). Where the open function is idempotent at `tr`, it is so at the state it leaves too. -/
@[simp] theorem Timer.init_init (tr : Timer) : tr.init.2.init = tr.init := by
  by_cases h : Config.trInitRaw (tr.withRegs (Config.trInitRaw tr).2) = Config.trInitRaw tr
  · rw [Timer.init_of_idempotent h, Timer.init_of_idempotent (by rw [Timer.withRegs_withRegs, h, h]), h,
      Timer.withRegs_withRegs]
  · rw [Timer.init_of_not_idempotent h, Timer.init_of_not_idempotent h]

end Sys2Proof

namespace Sys2Proof.Machine

open Sys2Proof

/-- Settles O16: `Timer.init_init`, and the two cases of `TR_INIT`'s definition. -/
theorem timerInitIsIdempotent : Obligations.TimerInitIsIdempotent := by
  intro tr
  refine ⟨tr.init_busclk, tr.init_supp, tr.init_init, ?_⟩
  by_cases h : Config.trInitRaw (tr.withRegs (Config.trInitRaw tr).2) = Config.trInitRaw tr
  · exact .inl (Timer.init_of_idempotent h)
  · exact .inr ⟨Timer.init_of_not_idempotent h, h⟩

/-! ### INIT (R100, R102, R103) -/

/-- What INIT answers. -/
def State.initResult (s : State) : Result :=
  if s.tr.init.1 ≠ .ok then .failed .hardwareOperationFailed
  else if s.channel = none then .failed .unsupportedChannel
  else .ok

/-- What INIT leaves of its block when it answers this result. -/
def Block.afterInit (b : Block) : Result → Block
  | .ok => { b with bindValid := true, bindSlot := b.straps.ch }
  | .failed .unsupportedChannel => { b with bindValid := false }
  | .failed _ => b

theorem Block.afterInit_afterInit (b : Block) (r : Result) : (b.afterInit r).afterInit r = b.afterInit r := by
  cases r with
  | ok => rfl
  | failed why => cases why <;> rfl

theorem Block.afterInit_straps (b : Block) (r : Result) : (b.afterInit r).straps = b.straps := by
  unfold Block.afterInit
  split <;> rfl

/-- INIT's answer depends on what `TR_INIT` answers, on the supported set and on the straps: not on the binding. -/
theorem State.initResult_congr {s t : State} (hi : t.tr.init = s.tr.init) (hs : t.tr.supp = s.tr.supp)
    (hc : t.blk.straps = s.blk.straps) : t.initResult = s.initResult := by
  rw [State.initResult, State.initResult, hi, State.channel_congr hs hc]

/-- The machine after INIT. -/
def State.afterInit (s : State) : State :=
  { s with tr := s.tr.init.2, blk := s.blk.afterInit s.initResult, replies := s.answered s.initResult 0 }

theorem State.initResult_afterInit (s : State) : s.afterInit.initResult = s.initResult :=
  State.initResult_congr s.tr.init_init s.tr.init_supp (s.blk.afterInit_straps _)

theorem exec_init (a : Word) (s : State) : exec (.init a) s = .next s.afterInit := by
  rw [exec, execInit, State.resolveBinding, State.callInit_channel, State.afterInit, State.initResult]
  by_cases hr : s.tr.init.1 = .ok
  · have hcall : s.callInit.1 = .ok := hr
    rw [if_pos hcall, if_neg (not_not.2 hr)]
    cases s.channel <;> rfl
  · have hcall : s.callInit.1 ≠ .ok := hr
    rw [if_neg hcall, if_pos hr]
    rfl

/-- Settles O15: `exec_init`, read in each of the three cases of the answer. -/
theorem initResolvesTheBinding : Obligations.InitResolvesTheBinding := by
  intro a s
  rw [exec_init, State.afterInit, State.initResult]
  split_ifs <;> rfl

/-- Settles O17: after INIT, `TR_INIT` answers the same again (`Timer.init_init`), so INIT does (`State.initResult_afterInit`),
and what it leaves of the block is left as it is (`Block.afterInit_afterInit`). -/
theorem initTwiceIsInitOnce : Obligations.InitTwiceIsInitOnce := by
  intro a b s
  refine ⟨s.afterInit, s.initResult, exec_init a s, rfl, ?_⟩
  have htr : s.afterInit.tr.init.2 = s.afterInit.tr := congrArg Prod.snd s.tr.init_init
  have hblk : s.afterInit.blk.afterInit s.initResult = s.afterInit.blk := s.blk.afterInit_afterInit _
  rw [exec_init, State.afterInit, State.initResult_afterInit, htr, hblk]

/-! ### GET_TIM (R104) -/

/-- Settles O18: opcode 0xA selects the arm of GET_TIM, whose meaning is one response. -/
theorem getTimAnswersTheHandle : Obligations.GetTimAnswersTheHandle := by
  refine ⟨fun w hop => ?_, fun a s => rfl⟩
  rw [decode, hop]
  rfl

/-! ### Commands that do not look at the binding (R106) -/

@[simp] theorem State.withBinding_channel (s : State) (v : Bool) (c : Strap) : (s.withBinding v c).channel = s.channel := rfl

@[simp] theorem State.withBinding_readBusclk (s : State) (v : Bool) (c : Strap) :
    (s.withBinding v c).readBusclk = s.readBusclk := rfl

/-- A start or stop call and its answer go the same way under any binding. -/
theorem startStopAnswer_withBinding (s : State) (k : Channel) (on v : Bool) (c : Strap) :
    startStopAnswer ((s.withBinding v c).callStartStop k on) = (startStopAnswer (s.callStartStop k on)).withBinding v c := by
  simp only [startStopAnswer, apply_ite (State.withBinding · v c)]
  rfl

/-- A command that neither uses the binding nor may write it does the same under any binding, and leaves that binding. -/
theorem exec_withBinding {i : Instr} {s t : State} (hu : i.usesBinding = false) (hw : i.mayWrite.binding = false)
    (h : exec i s = .next t) (v : Bool) (c : Strap) : exec i (s.withBinding v c) = .next (t.withBinding v c) := by
  cases i with
  | init a => cases hw
  | setDuty d => cases hu
  | setAutoPw us =>
    simp only [exec, execSetAutoPw, State.withBinding_readBusclk, State.withBinding_channel] at h ⊢
    cases hr : resolve s.readBusclk.toNat (fval us) with
    | failed why => rw [hr] at h; cases h; rfl
    | found psc arr =>
      rw [hr] at h
      cases hk : s.channel <;> rw [hk] at h <;> cases h <;> rfl
  | setCcr x =>
    simp only [exec, execSetCcr, State.withBinding_channel] at h ⊢
    cases hk : s.channel <;> rw [hk] at h <;> cases h <;> rfl
  | enable a =>
    simp only [exec, execEnable, State.withBinding_channel] at h ⊢
    cases hk : s.channel <;> rw [hk] at h <;> cases h
    · rfl
    · exact congrArg _ (startStopAnswer_withBinding s _ true v c)
  | disable a =>
    simp only [exec, execDisable, State.withBinding_channel] at h ⊢
    cases hk : s.channel <;> rw [hk] at h <;> cases h
    · rfl
    · exact congrArg _ (startStopAnswer_withBinding s _ false v c)
  | setAutoFreq | setArr | setPsr | getTim | reserved0 | reservedB | reservedCToF => cases h; rfl

/-- Settles O51: INIT's answer and its `TR_INIT` are those of the timer resource and the straps (`exec_init`); every other
command carries the binding along (`exec_withBinding`). -/
theorem onlySetDutyUsesTheBinding : Obligations.OnlySetDutyUsesTheBinding := by
  intro i s valid slot hu
  cases hw : i.mayWrite.binding with
  | true =>
    obtain ⟨a, rfl⟩ := eq_init_of_mayWrite_binding hw
    have hr : (s.withBinding valid slot).initResult = s.initResult := State.initResult_congr rfl rfl rfl
    exact ⟨_, _, exec_init a s, exec_init a _, rfl, congrArg (s.answered · 0) hr, rfl, rfl, rfl⟩
  | false =>
    obtain ⟨t, ht⟩ := exec_next_of_ne_setDuty (i := i) (by rintro d rfl; cases hu) s
    exact ⟨t, _, ht, exec_withBinding hu hw ht valid slot, rfl, rfl, rfl, rfl, rfl⟩

end Sys2Proof.Machine

/-! # SET_DUTY (spec/41_duty_cycle.md)

An accepted operand matters through its duty cycle alone, the word written is the exact floor of R115, and R117's properties are
facts about that floor. -/

namespace Sys2Proof.Machine

open Sys2Proof

/-- The dispatcher's arm for SET_DUTY. -/
theorem exec_setDuty (d : Word) (s : State) : exec (.setDuty d) s = execSetDuty d s := rfl

/-! ### Operands (R111, R112) -/

/-- The three kinds of operand R111 rejects are not accepted. -/
theorem not_dutyAccepted {d : Word} (h : IsNaN d ∨ IsNegInf d ∨ (IsFinite d ∧ f32Value d < 0)) : ¬ DutyAccepted d := by
  rintro (⟨hexp, hfrac, hsign⟩ | ⟨hfinite, hnonneg⟩)
  · obtain ⟨-, h⟩ | ⟨-, -, h⟩ | ⟨h, -⟩ := h
    exacts [h hfrac, hsign.not_ge h, h hexp]
  · obtain ⟨h, -⟩ | ⟨h, -⟩ | ⟨-, h⟩ := h
    exacts [hfinite h, hfinite h, hnonneg.not_gt h]

theorem dutyPercent_of_isFinite {d : Word} (h : IsFinite d) : dutyPercent d = min (f32Value d) 100 :=
  if_neg (not_isPosInf_of_isFinite h)

theorem dutyPercent_nonneg {d : Word} (h : DutyAccepted d) : 0 ≤ dutyPercent d := by
  obtain hp | ⟨hf, hv⟩ := h
  · rw [dutyPercent, if_pos hp]
    norm_num
  · rw [dutyPercent_of_isFinite hf]
    exact le_min hv (by norm_num)

theorem dutyPercent_eq_hundred_iff (d : Word) : dutyPercent d = 100 ↔ IsPosInf d ∨ 100 ≤ f32Value d := by
  by_cases hp : IsPosInf d
  · exact iff_of_true (if_pos hp) (.inl hp)
  · rw [dutyPercent, if_neg hp, min_eq_right_iff, or_iff_right hp]

theorem f32Value_zero : f32Value 0 = 0 := by
  norm_num [f32Value_eq_gridUnits, gridUnits]

/-- R111: minus zero has the value 0. -/
theorem f32Value_minusZero : f32Value 0x80000000 = 0 := by
  norm_num [f32Value_eq_gridUnits, gridUnits]

theorem f32Value_hundred : f32Value 0x42C80000 = 100 := by
  have hn : (0x42C80000 : Word).toNat = 0x42C80000 := rfl
  norm_num [f32Value_eq_gridUnits, gridUnits, signOf, hn]

theorem dutyAccepted_hundred : DutyAccepted 0x42C80000 := .inr ⟨by decide, by norm_num [f32Value_hundred]⟩

theorem dutyPercent_hundred : dutyPercent 0x42C80000 = 100 :=
  (dutyPercent_eq_hundred_iff _).2 (.inr f32Value_hundred.ge)

/-! ### The word written (R115) -/

/-- The word SET_DUTY writes for the operand `d` and the reload value `arr`. -/
def dutyWord (d arr : Word) : Word := BitVec.ofNat 32 (compareValue (fval d).clampDuty arr.toNat)

theorem dutyWord_eq_floor {d : Word} (h : DutyAccepted d) (arr : Word) :
    ((dutyWord d arr).toNat : ℤ) = ⌊dutyPercent d * arr.toNat / 100⌋ := dutyWord_toNat h arr

/-- R117 item 1: the bound. -/
theorem dutyWord_le (d arr : Word) : (dutyWord d arr).toNat ≤ arr.toNat :=
  (Nat.mod_le _ _).trans (compareValue_le _ _)

/-- R117 item 3. -/
theorem dutyWord_mono {d e : Word} (hd : DutyAccepted d) (he : DutyAccepted e) (h : dutyPercent d ≤ dutyPercent e)
    (arr : Word) : (dutyWord d arr).toNat ≤ (dutyWord e arr).toNat := by
  rw [← Int.ofNat_le, dutyWord_eq_floor hd, dutyWord_eq_floor he]
  gcongr

/-- The word depends on the operand's duty cycle alone. -/
theorem dutyWord_congr {d e : Word} (hd : DutyAccepted d) (he : DutyAccepted e) (h : dutyPercent d = dutyPercent e)
    (arr : Word) : dutyWord d arr = dutyWord e arr :=
  BitVec.eq_of_toNat_eq ((dutyWord_mono hd he h.le arr).antisymm (dutyWord_mono he hd h.ge arr))

/-- R117 item 1: below 100 the floor falls short of the period. -/
theorem dutyWord_eq_period_iff {d arr : Word} (h : DutyAccepted d) (harr : arr ≠ 0) :
    dutyWord d arr = arr ↔ dutyPercent d = 100 := by
  have hpos : (0 : ℚ) < arr.toNat := Nat.cast_pos.2 (Nat.pos_of_ne_zero fun h0 => harr (BitVec.eq_of_toNat_eq h0))
  have hle : arr.toNat ≤ (dutyWord d arr).toNat ↔ 100 ≤ dutyPercent d := by
    rw [← Int.ofNat_le, dutyWord_eq_floor h, Int.le_floor, le_div_iff₀ (by norm_num), Int.cast_natCast, mul_comm,
      mul_le_mul_iff_left₀ hpos]
  rw [← BitVec.toNat_inj, ← LE.le.ge_iff_eq (dutyWord_le d arr), hle, (dutyPercent_le_hundred d).ge_iff_eq]

/-- R117 item 2. -/
theorem dutyWord_eq_zero_iff {d : Word} (h : DutyAccepted d) (arr : Word) :
    dutyWord d arr = 0 ↔ dutyPercent d * arr.toNat < 100 := by
  have hnonneg : 0 ≤ dutyPercent d * arr.toNat / 100 :=
    div_nonneg (mul_nonneg (dutyPercent_nonneg h) (Nat.cast_nonneg _)) (by norm_num)
  have hzero : dutyWord d arr = 0 ↔ ⌊dutyPercent d * arr.toNat / 100⌋ = 0 := by
    rw [← dutyWord_eq_floor h, Int.natCast_eq_zero]
    exact BitVec.toNat_inj.symm
  rw [hzero, Int.floor_eq_zero_iff, Set.mem_Ico, and_iff_right hnonneg, div_lt_one (by norm_num)]

/-- R117 item 4: the division by 100 is exact. -/
theorem dutyWord_of_integer {d arr : Word} {n m : Nat} (h : DutyAccepted d) (hn : dutyPercent d = n)
    (harr : arr.toNat = 100 * m) : (dutyWord d arr).toNat = n * m := by
  have hexact : dutyPercent d * arr.toNat / 100 = (n * m : ℕ) := by
    rw [hn, harr]
    push_cast
    ring
  have hfloor := dutyWord_eq_floor h arr
  rw [hexact, Int.floor_natCast] at hfloor
  exact_mod_cast hfloor

/-! ### What SET_DUTY answers (R110) -/

theorem exec_setDuty_of_rejected {d : Word} (h : ¬ DutyAccepted d) (s : State) :
    exec (.setDuty d) s = .next (s.raise .invalidParameter) := by
  have hbelow : (fval d).belowDuty = true := by
    rwa [← belowDuty_eq_false_iff, Bool.not_eq_false] at h
  rw [exec_setDuty, execSetDuty, if_pos hbelow]

/-- R114: the binding test is the last one. -/
theorem exec_setDuty_of_unbound {d : Word} {s : State} (h : DutyAccepted d) (harr : s.tr.regs.arr ≠ 0)
    (hv : s.blk.bindValid = false) : exec (.setDuty d) s = .next (s.raise .unsupportedChannel) := by
  have hp : s.readArr ≠ 0 := harr
  rw [exec_setDuty, execSetDuty, (belowDuty_eq_false_iff d).2 h, if_neg Bool.false_ne_true, if_neg hp, if_pos hv]

theorem exec_setDuty_of_bound {d : Word} {s : State} {k : Channel} (h : DutyAccepted d) (harr : s.tr.regs.arr ≠ 0)
    (hv : s.blk.bindValid = true) (hk : s.tr.channel s.blk.bindSlot = some k) :
    exec (.setDuty d) s = .next (s.writeCcr k (dutyWord d s.tr.regs.arr)).returnOk :=
  execSetDuty_of_bound h harr hv hk

/-- What the bound channel's compare register holds after SET_DUTY. -/
theorem exists_exec_setDuty_ccr {d : Word} {s : State} {k : Channel} (h : DutyAccepted d) (harr : s.tr.regs.arr ≠ 0)
    (hv : s.blk.bindValid = true) (hk : s.tr.channel s.blk.bindSlot = some k) :
    ∃ t, exec (.setDuty d) s = .next t ∧ t.tr.regs.ccr.get k = dutyWord d s.tr.regs.arr :=
  ⟨_, exec_setDuty_of_bound h harr hv hk, PerChannel.get_set_same _ _ _⟩

/-- Accepted operands of one duty cycle are one operand to SET_DUTY, in every state: it looks at them for the word alone. -/
theorem exec_setDuty_congr {d e : Word} (hd : DutyAccepted d) (he : DutyAccepted e) (h : dutyPercent d = dutyPercent e)
    (s : State) : exec (.setDuty d) s = exec (.setDuty e) s := by
  have hword := dutyWord_congr hd he h s.readArr
  rw [dutyWord, dutyWord] at hword
  rw [exec_setDuty, exec_setDuty, execSetDuty, execSetDuty, (belowDuty_eq_false_iff d).2 hd,
    (belowDuty_eq_false_iff e).2 he, hword]

/-! ### The statements -/

/-- Settles O19: `exec_setDuty_of_bound` gives the next state, `dutyWord_eq_floor` the word. -/
theorem setDutyWritesTheExactFloor : Obligations.SetDutyWritesTheExactFloor := fun _ s _ hd harr hv hk =>
  ⟨_, dutyWord_eq_floor hd s.tr.regs.arr, exec_setDuty_of_bound hd harr hv hk⟩

/-- Settles O20: the rejected operands are not accepted (`not_dutyAccepted`), and both zeros have the value 0. -/
theorem setDutyRejectsBelowZero : Obligations.SetDutyRejectsBelowZero := by
  refine ⟨fun d s h => exec_setDuty_of_rejected (not_dutyAccepted h) s, fun s => ?_⟩
  have hminus : IsFinite 0x80000000 := by decide
  have hplus : IsFinite 0 := by decide
  refine exec_setDuty_congr (.inr ⟨hminus, f32Value_minusZero.ge⟩) (.inr ⟨hplus, f32Value_zero.ge⟩) ?_ s
  rw [dutyPercent_of_isFinite hminus, dutyPercent_of_isFinite hplus, f32Value_minusZero, f32Value_zero]

/-- Settles O21: above 100 the duty cycle is 100 (`dutyPercent_eq_hundred_iff`), and the word for 100 is the period. -/
theorem setDutyAboveHundredActsAsHundred : Obligations.SetDutyAboveHundredActsAsHundred := by
  refine ⟨fun d s h => ?_, fun s k harr hv hk => ?_⟩
  · have hd : DutyAccepted d := h.imp_right fun ⟨hf, hv⟩ => ⟨hf, by linarith⟩
    have hpercent : dutyPercent d = 100 := (dutyPercent_eq_hundred_iff d).2 (h.imp_right fun ⟨_, hv⟩ => hv.le)
    exact exec_setDuty_congr hd dutyAccepted_hundred (hpercent.trans dutyPercent_hundred.symm) s
  · rw [exec_setDuty_of_bound dutyAccepted_hundred harr hv hk,
      (dutyWord_eq_period_iff dutyAccepted_hundred harr).2 dutyPercent_hundred]
    rfl

/-- Settles O22: an accepted operand fails on the period (`execSetDuty_of_no_period`), any other before it. -/
theorem setDutyWithoutPeriodFails : Obligations.SetDutyWithoutPeriodFails := by
  refine ⟨fun d s hd harr => execSetDuty_of_no_period hd harr, fun d s harr => ?_, rfl⟩
  by_cases hd : DutyAccepted d
  · exact ⟨_, execSetDuty_of_no_period hd harr⟩
  · exact ⟨_, exec_setDuty_of_rejected hd s⟩

/-- Settles O23, by `exec_setDuty_of_unbound`. -/
theorem setDutyWithoutBindingFails : Obligations.SetDutyWithoutBindingFails :=
  fun _ _ hd harr hv => exec_setDuty_of_unbound hd harr hv

/-- Settles O24: the bounds of `dutyWord`. -/
theorem setDutyCompareValueBounds : Obligations.SetDutyCompareValueBounds := by
  intro d s k hd harr hv hk
  obtain ⟨t, ht, hccr⟩ := exists_exec_setDuty_ccr hd harr hv hk
  refine ⟨t, ht, ?_, ?_, ?_⟩ <;> rw [hccr]
  · exact dutyWord_le d s.tr.regs.arr
  · rw [dutyWord_eq_period_iff hd harr, dutyPercent_eq_hundred_iff]
  · exact dutyWord_eq_zero_iff hd s.tr.regs.arr

/-- Settles O25, by `dutyWord_mono`. -/
theorem setDutyIsMonotone : Obligations.SetDutyIsMonotone := by
  intro d e s k hd he hle harr hv hk
  obtain ⟨t, ht, htccr⟩ := exists_exec_setDuty_ccr hd harr hv hk
  obtain ⟨u, hu, huccr⟩ := exists_exec_setDuty_ccr he harr hv hk
  refine ⟨t, u, ht, hu, ?_⟩
  rw [htccr, huccr]
  exact dutyWord_mono hd he hle s.tr.regs.arr

/-- Settles O26: a finite operand of value `n ≤ 100` is the duty cycle `n`, and `dutyWord_of_integer`. -/
theorem setDutyOfIntegerPercent : Obligations.SetDutyOfIntegerPercent := by
  intro d n m s k hf hval hn hm hperiod hv hk
  have hd : DutyAccepted d := .inr ⟨hf, hval ▸ n.cast_nonneg⟩
  have hpercent : dutyPercent d = n := by
    rw [dutyPercent_of_isFinite hf, hval, min_eq_left (by exact_mod_cast hn)]
  have harr : s.tr.regs.arr ≠ 0 := by
    intro h0
    have hzero : 100 * m = 0 := by
      rw [← hperiod, h0]
      rfl
    omega
  obtain ⟨t, ht, hccr⟩ := exists_exec_setDuty_ccr hd harr hv hk
  exact ⟨t, ht, hccr ▸ dutyWord_of_integer hd hpercent hperiod⟩

end Sys2Proof.Machine

/-! # SET_AUTO_FREQ (spec/42_auto_frequency.md)

The command is one call of the timer resource's routine, followed by the response that routine gave. -/

namespace Sys2Proof.Machine

open Sys2Proof

/-- A word decodes to the well-formed instruction that has its opcode and its operand (R71, R72). -/
theorem decode_eq_of_fields {w : CmdWord} {i : Instr} (hwf : i.wellFormed = true) (hop : w.op = i.opcode)
    (harg : w.arg = i.operand) : decode w = i := by
  have hw : w = encode i := by rw [← op_append_arg w, hop, harg, encode]
  rw [hw, decode_encode hwf]

/-- The machine after `TRCall(setAutoFrequency, hz)` (R121): the routine is free in the registers, and takes one draw. -/
theorem State.callAutoFreq_snd (hz : Word) (s : State) :
    (s.callAutoFreq hz).2 =
      { s with tr := { s.tr with regs := (Config.trAutoFreq s.draws hz s.tr).2 }, draws := s.draws + 1 } := rfl

/-- SET_AUTO_FREQ is the call and its response, with no check of the block's own before or after (R120, R122). -/
theorem exec_setAutoFreq (hz : Word) (s : State) :
    exec (.setAutoFreq hz) s = .next ((s.callAutoFreq hz).2.respond (Config.trAutoFreq s.draws hz s.tr).1 0) := rfl

/-- Settles O27: opcode 3 is that of SET_AUTO_FREQ with the word's operand (`decode_eq_of_fields`), and its next state is the
response (`exec_setAutoFreq`) put on what the call leaves (`State.callAutoFreq_snd`). -/
theorem setAutoFreqSurfacesTheResult : Obligations.SetAutoFreqSurfacesTheResult := by
  refine ⟨fun w hop => decode_eq_of_fields rfl hop rfl, fun hz s => ?_⟩
  rw [exec_setAutoFreq, State.callAutoFreq_snd]
  rfl

end Sys2Proof.Machine

/-! # SET_AUTO_PW (spec/43_pulse_width.md)

Operand and bus clock act through `X` alone: what the resolver finds is written as two functions of the rational `X`, and R134's
properties are facts about those. -/

namespace Sys2Proof.Machine

open Sys2Proof

/-! ### The pair of registers as functions of `X` (R129, R134) -/

/-- R134 item 1: the least prescaler for `x` ticks. -/
def tickPrescaler (x : ℚ) : Nat := ⌊x / 65536⌋₊ + 1

/-- The reload value at the least prescaler, `floor(X / psc)` (R128). -/
def tickReload (x : ℚ) : Nat := ⌊x / tickPrescaler x⌋₊

theorem tickPrescaler_pos (x : ℚ) : 0 < tickPrescaler x := Nat.succ_pos _

/-- R134 item 6. -/
theorem tickPrescaler_mono : Monotone tickPrescaler := by
  intro x y h
  unfold tickPrescaler
  gcongr

/-- R130: the search over 1 to 65535 succeeds just below `65535 * 65536`. -/
theorem tickPrescaler_le_iff {x : ℚ} (hx : 0 ≤ x) : tickPrescaler x ≤ 65535 ↔ x < 4294901760 := by
  rw [tickPrescaler, Nat.succ_le_iff, Nat.floor_lt (by positivity), div_lt_iff₀ (by norm_num)]
  norm_num

theorem tickPrescaler_eq_floor {x : ℚ} (hx : 0 ≤ x) : (tickPrescaler x : ℤ) = ⌊x / 65536⌋ + 1 := by
  rw [tickPrescaler, Nat.cast_succ, Int.natCast_floor_eq_floor (by positivity)]

theorem tickReload_eq_floor {x : ℚ} (hx : 0 ≤ x) : (tickReload x : ℤ) = ⌊x / tickPrescaler x⌋ :=
  Int.natCast_floor_eq_floor (by positivity)

theorem sub_one_mul_le_of_tickPrescaler {x : ℚ} (hx : 0 ≤ x) : ((tickPrescaler x : ℚ) - 1) * 65536 ≤ x := by
  rw [← le_div_iff₀ (by norm_num), tickPrescaler, Nat.cast_succ, add_sub_cancel_right]
  exact Nat.floor_le (by positivity)

theorem lt_tickPrescaler_mul (x : ℚ) : x < tickPrescaler x * 65536 := by
  rw [← div_lt_iff₀ (by norm_num), tickPrescaler, Nat.cast_succ]
  exact Nat.lt_floor_add_one _

/-- R134 item 7: the realised count is at most `X`. -/
theorem tickPrescaler_mul_tickReload_le {x : ℚ} (hx : 0 ≤ x) : (tickPrescaler x : ℚ) * tickReload x ≤ x := by
  rw [mul_comm, ← le_div_iff₀ (Nat.cast_pos.2 (tickPrescaler_pos x))]
  exact Nat.floor_le (by positivity)

/-- R134 item 7: the shortfall is less than one prescaler. -/
theorem sub_tickPrescaler_lt (x : ℚ) : x - tickPrescaler x < (tickPrescaler x : ℚ) * tickReload x := by
  have h : x / tickPrescaler x < tickReload x + 1 := Nat.lt_floor_add_one _
  rw [div_lt_iff₀ (Nat.cast_pos.2 (tickPrescaler_pos x))] at h
  linarith

/-- A reload value `n` is reached when `n` whole prescalers fit `X`. -/
theorem le_tickReload_iff {x : ℚ} (hx : 0 ≤ x) (n : Nat) : n ≤ tickReload x ↔ n * (tickPrescaler x : ℚ) ≤ x := by
  rw [tickReload, Nat.le_floor_iff (by positivity), le_div_iff₀ (Nat.cast_pos.2 (tickPrescaler_pos x))]

/-- R129: the reload value fits 16 bits. -/
theorem tickReload_le {x : ℚ} (hx : 0 ≤ x) : tickReload x ≤ 65535 := by
  rw [← Nat.lt_succ_iff, ← not_le, le_tickReload_iff hx, not_le, mul_comm]
  exact lt_tickPrescaler_mul x

/-- R134 item 3: a prescaler above 1 leaves at least half of the 16-bit range. -/
theorem le_tickReload_of_one_lt {x : ℚ} (hx : 0 ≤ x) (h : 1 < tickPrescaler x) : 32768 ≤ tickReload x := by
  have htwo : (2 : ℚ) ≤ tickPrescaler x := by exact_mod_cast h
  have hlow := sub_one_mul_le_of_tickPrescaler hx
  rw [le_tickReload_iff hx]
  push_cast
  linarith

/-- R134 item 3: the reload value is not 0. -/
theorem one_le_tickReload {x : ℚ} (hx : 1 ≤ x) : 1 ≤ tickReload x := by
  have hnonneg : 0 ≤ x := zero_le_one.trans hx
  obtain h | h := Nat.eq_or_lt_of_le (tickPrescaler_pos x)
  · rw [le_tickReload_iff hnonneg, ← h]
    simpa using hx
  · exact le_trans (by norm_num) (le_tickReload_of_one_lt hnonneg h)

/-- R129: no smaller prescaler does. -/
theorem le_floor_of_lt_tickPrescaler {x : ℚ} (hx : 0 ≤ x) {q : Nat} (hq : 0 < q) (h : q < tickPrescaler x) :
    65536 ≤ ⌊x / q⌋ := by
  have hle : (q : ℚ) ≤ tickPrescaler x - 1 := by
    rw [le_sub_iff_add_le]
    exact_mod_cast h
  have hlow := sub_one_mul_le_of_tickPrescaler hx
  rw [Int.le_floor, le_div_iff₀ (Nat.cast_pos.2 hq)]
  push_cast
  linarith

/-! ### What the resolver finds (R127 to R130) -/

theorem Frac.toRat_nonneg (x : Frac) : 0 ≤ x.toRat := by
  unfold Frac.toRat
  positivity

theorem leastPrescaler_eq_tickPrescaler (x : Frac) : leastPrescaler x = tickPrescaler x.toRat := by
  have h : (candidate x 65536 : ℤ) = ⌊x.toRat / 65536⌋ := (floor_toRat_div x 65536).symm
  rw [← Nat.cast_inj (R := ℤ), tickPrescaler_eq_floor x.toRat_nonneg, ← h]
  rfl

theorem candidate_leastPrescaler (x : Frac) : candidate x (leastPrescaler x) = tickReload x.toRat := by
  rw [← Nat.cast_inj (R := ℤ), tickReload_eq_floor x.toRat_nonneg, ← floor_toRat_div, leastPrescaler_eq_tickPrescaler]

theorem one_le_periodTicks_iff (busclk us : Word) :
    1 ≤ periodTicks busclk us ↔ 1000000 ≤ busclk.toNat * f32Value us := by
  rw [periodTicks, le_div_iff₀ (by norm_num), one_mul]

theorem busclk_ne_zero_of_periodTicks {busclk us : Word} (hx : 1 ≤ periodTicks busclk us) : busclk ≠ 0 := by
  rintro rfl
  norm_num [periodTicks] at hx

/-- R129, R130: from one tick on, what is found depends on `X` alone. -/
theorem resolve_of_one_le {busclk us : Word} (h : IsFinite us) (hx : 1 ≤ periodTicks busclk us) :
    resolve busclk.toNat (fval us) =
      if periodTicks busclk us < 4294901760 then
        .found (tickPrescaler (periodTicks busclk us)) (tickReload (periodTicks busclk us))
      else .failed .configurationUnattainable := by
  obtain ⟨x, -, hrat, hres⟩ :=
    resolve_of_long (busclk_ne_zero_of_periodTicks hx) h ((one_le_periodTicks_iff busclk us).1 hx)
  rw [hres, resolveTicks, ← leastPrescaler, candidate_leastPrescaler, leastPrescaler_eq_tickPrescaler, hrat]
  exact if_congr (tickPrescaler_le_iff (zero_le_one.trans hx)) rfl rfl

/-- The four causes of R127. -/
theorem resolve_of_invalid {busclk us : Word}
    (h : IsNaN us ∨ IsNegInf us ∨ busclk = 0 ∨ (IsFinite us ∧ busclk.toNat * f32Value us < 1000000)) :
    resolve busclk.toNat (fval us) = .failed .invalidParameter := by
  obtain h | h | rfl | ⟨hf, hx⟩ := h
  · exact resolve_of_isNaN h
  · exact resolve_of_isNegInf h
  · rfl
  · exact resolve_of_short hf hx

/-- The two causes of R130. -/
theorem resolve_of_unattainable {busclk us : Word} (hb : busclk ≠ 0)
    (h : IsPosInf us ∨ (IsFinite us ∧ 4294901760 ≤ periodTicks busclk us)) :
    resolve busclk.toNat (fval us) = .failed .configurationUnattainable := by
  obtain h | ⟨hf, hx⟩ := h
  · exact resolve_of_isPosInf (fun h0 => hb (BitVec.eq_of_toNat_eq h0)) h
  · rw [resolve_of_one_le hf (le_trans (by norm_num) hx), if_neg hx.not_gt]

theorem resolve_of_attainable {busclk us : Word} (h : IsFinite us) (hx : 1 ≤ periodTicks busclk us)
    (hlt : periodTicks busclk us < 4294901760) :
    resolve busclk.toNat (fval us) =
      .found (tickPrescaler (periodTicks busclk us)) (tickReload (periodTicks busclk us)) := by
  rw [resolve_of_one_le h hx, if_pos hlt]

/-- A pair is found only in the range of R129, and is the pair for `X`. -/
theorem resolve_eq_found {busclk us : Word} {psc arr : Nat} (h : resolve busclk.toNat (fval us) = .found psc arr) :
    1 ≤ periodTicks busclk us ∧ periodTicks busclk us < 4294901760 ∧
      psc = tickPrescaler (periodTicks busclk us) ∧ arr = tickReload (periodTicks busclk us) := by
  by_cases hb : busclk = 0
  · cases (resolve_of_invalid (.inr (.inr (.inl hb)))).symm.trans h
  obtain hc | hc | hc | hc := float_classes us
  · cases (resolve_of_isNaN hc).symm.trans h
  · cases (resolve_of_unattainable hb (.inl hc)).symm.trans h
  · cases (resolve_of_isNegInf hc).symm.trans h
  · by_cases hx : 1 ≤ periodTicks busclk us
    · rw [resolve_of_one_le hc hx] at h
      split_ifs at h with hlt
      cases h
      exact ⟨hx, hlt, rfl, rfl⟩
    · rw [one_le_periodTicks_iff, not_le] at hx
      cases (resolve_of_short hc hx).symm.trans h

/-! ### What SET_AUTO_PW answers (R125, R131, R132) -/

theorem exec_setAutoPw (us : Word) (s : State) : exec (.setAutoPw us) s = execSetAutoPw us s := rfl

theorem exec_setAutoPw_of_failed {us : Word} {s : State} {why : Failure}
    (h : resolve s.tr.busclk.toNat (fval us) = .failed why) : exec (.setAutoPw us) s = .next (s.raise why) := by
  rw [exec_setAutoPw, execSetAutoPw, State.readBusclk, h]

/-- R131: the channel check comes after the search. -/
theorem exec_setAutoPw_of_unsupported {us : Word} {s : State} {psc arr : Nat}
    (h : resolve s.tr.busclk.toNat (fval us) = .found psc arr) (hk : s.channel = none) :
    exec (.setAutoPw us) s = .next (s.raise .unsupportedChannel) := by
  rw [exec_setAutoPw, execSetAutoPw, State.readBusclk, h, hk]

theorem exec_setAutoPw_of_found {us : Word} {s : State} {psc arr : Nat} {k : Channel}
    (h : resolve s.tr.busclk.toNat (fval us) = .found psc arr) (hk : s.channel = some k) :
    exec (.setAutoPw us) s = .next (s.programPair k psc arr).returnOk := by
  rw [exec_setAutoPw, execSetAutoPw, State.readBusclk, h, hk]

/-- SET_AUTO_PW that answered Ok programmed the pair for an `X` in the range of R129. -/
theorem exec_setAutoPw_eq_ok {us : Word} {s t : State} (h : exec (.setAutoPw us) s = .next t)
    (hok : t.replies = s.answered .ok 0) :
    ∃ k, s.channel = some k ∧ 1 ≤ periodTicks s.tr.busclk us ∧ periodTicks s.tr.busclk us < 4294901760 ∧
      t = (s.programPair k (tickPrescaler (periodTicks s.tr.busclk us))
        (tickReload (periodTicks s.tr.busclk us))).returnOk := by
  obtain ⟨f, e⟩ | ⟨k, psc, arr, hk, hres, e⟩ := execSetAutoPw_cases us s
  · cases e.symm.trans h
    cases (State.answered_inj.1 hok).1
  · cases e.symm.trans h
    obtain ⟨hx, hlt, rfl, rfl⟩ := resolve_eq_found hres
    exact ⟨k, hk, hx, hlt, rfl⟩

/-! The three registers of R132 hold the values written: none of them loses a bit. -/

theorem programPair_psc_toNat (s : State) (k : Channel) (arr : Nat) {psc : Nat} (h : psc ≤ 65535) :
    (s.programPair k psc arr).returnOk.tr.regs.psc.toNat = psc - 1 :=
  (BitVec.toNat_ofNat ..).trans (Nat.mod_eq_of_lt (by omega))

theorem programPair_arr_toNat (s : State) (k : Channel) (psc : Nat) {arr : Nat} (h : arr ≤ 65535) :
    (s.programPair k psc arr).returnOk.tr.regs.arr.toNat = arr :=
  (BitVec.toNat_ofNat ..).trans (Nat.mod_eq_of_lt (by omega))

theorem programPair_ccr (s : State) (k : Channel) (psc arr : Nat) :
    (s.programPair k psc arr).returnOk.tr.regs.ccr.get k = BitVec.ofNat 32 (arr / 2) :=
  PerChannel.get_set_same _ _ _

/-! ### Half duty (R133, R117 item 5) -/

/-- The pattern of R133's operand. -/
theorem f32Value_fifty : f32Value 0x42480000 = 50 := by
  have hn : (0x42480000 : Word).toNat = 0x42480000 := rfl
  norm_num [f32Value_eq_gridUnits, gridUnits, signOf, hn]

theorem dutyAccepted_fifty : DutyAccepted 0x42480000 := .inr ⟨by decide, by norm_num [f32Value_fifty]⟩

theorem dutyPercent_fifty : dutyPercent 0x42480000 = 50 := by
  rw [dutyPercent_of_isFinite (by decide), f32Value_fifty]
  norm_num

/-- R117 item 5: the word for 50 percent is half the period, rounded down. -/
theorem dutyWord_fifty (arr : Word) : dutyWord 0x42480000 arr = BitVec.ofNat 32 (arr.toNat / 2) := by
  have hhalf : (50 : ℚ) * arr.toNat / 100 = (arr.toNat : ℚ) / (2 : ℕ) := by
    push_cast
    ring
  have hfloor := dutyWord_eq_floor dutyAccepted_fifty arr
  rw [dutyPercent_fifty, hhalf, Rat.floor_natCast_div_natCast, ← Int.natCast_div, Nat.cast_inj] at hfloor
  rw [← hfloor, BitVec.ofNat_toNat, BitVec.setWidth_eq]

/-- Writing a compare register with what it holds changes nothing. -/
theorem State.writeCcr_of_get {s : State} {k : Channel} {v : Word} (h : s.tr.regs.ccr.get k = v) : s.writeCcr k v = s := by
  subst h
  rw [State.writeCcr, PerChannel.set_get]
  rfl

/-! ### The statements -/

/-- Settles O28: the closed form is the search (`resolve_eq_searchResolve`), and the cases of the pseudocode are those of the
meaning. -/
theorem setAutoPwIsTheAscendingSearch : Obligations.SetAutoPwIsTheAscendingSearch := by
  intro us s
  have hres := resolve_eq_searchResolve s.tr.busclk us
  cases hr : searchResolve s.tr.busclk us with
  | failed why => exact exec_setAutoPw_of_failed (hres.trans hr)
  | found psc arr =>
    cases hk : s.channel with
    | none => exact exec_setAutoPw_of_unsupported (hres.trans hr) hk
    | some k => exact exec_setAutoPw_of_found (hres.trans hr) hk

/-- Settles O29: the pair found is `tickPrescaler` and `tickReload` of `X` (`resolve_of_attainable`), and no smaller prescaler
does (`le_floor_of_lt_tickPrescaler`). -/
theorem setAutoPwProgramsTheLeastPrescaler : Obligations.SetAutoPwProgramsTheLeastPrescaler := by
  intro us s k hf hx hlt hk
  have hnonneg : 0 ≤ periodTicks s.tr.busclk us := zero_le_one.trans hx
  have hbound : periodTicks s.tr.busclk us < 4294901760 := hlt.trans_eq (by norm_num)
  exact ⟨_, _, tickPrescaler_pos _, (tickPrescaler_le_iff hnonneg).2 hbound, tickReload_eq_floor hnonneg,
    tickReload_le hnonneg, fun _ => le_floor_of_lt_tickPrescaler hnonneg, tickPrescaler_eq_floor hnonneg,
    exec_setAutoPw_of_found (resolve_of_attainable hf hx hbound) hk⟩

/-- Settles O30, by `resolve_of_invalid`. -/
theorem setAutoPwBelowResolutionIsInvalid : Obligations.SetAutoPwBelowResolutionIsInvalid :=
  fun _ _ h => exec_setAutoPw_of_failed (resolve_of_invalid h)

/-- Settles O31, by `resolve_of_unattainable`. -/
theorem setAutoPwTooLongIsUnattainable : Obligations.SetAutoPwTooLongIsUnattainable :=
  fun _ _ hb h => exec_setAutoPw_of_failed (resolve_of_unattainable hb h)

/-- Settles O32: a pair is found (`resolve_of_attainable`), and the channel check fails. -/
theorem setAutoPwUnsupportedChannelFails : Obligations.SetAutoPwUnsupportedChannelFails :=
  fun _ _ hf hx hlt hk => exec_setAutoPw_of_unsupported (resolve_of_attainable hf hx hlt) hk

/-- Settles O33: each answer that is not Ok is a `State.raise` (`execSetAutoPw_cases`). -/
theorem setAutoPwFailureWritesNothing : Obligations.SetAutoPwFailureWritesNothing := by
  intro us s
  obtain ⟨f, h⟩ | ⟨k, psc, arr, -, -, h⟩ := execSetAutoPw_cases us s
  · exact ⟨_, .failed f, h, rfl, fun _ => rfl⟩
  · exact ⟨_, .ok, h, rfl, fun hne => absurd rfl hne⟩

/-- Settles O34: Ok means the pair for `X` was programmed (`exec_setAutoPw_eq_ok`), and the bounds are those of that pair. -/
theorem setAutoPwWritesWithinItsRanges : Obligations.SetAutoPwWritesWithinItsRanges := by
  intro us s t k h hok hk
  obtain ⟨j, hj, hx, hlt, rfl⟩ := exec_setAutoPw_eq_ok h hok
  obtain rfl : j = k := Option.some.inj (hj.symm.trans hk)
  set x := periodTicks s.tr.busclk us
  have hnonneg : 0 ≤ x := zero_le_one.trans hx
  have hpos := tickPrescaler_pos x
  have hmax : tickPrescaler x ≤ 65535 := (tickPrescaler_le_iff hnonneg).2 hlt
  have hreload := tickReload_le hnonneg
  have hpsc := programPair_psc_toNat s j (tickReload x) hmax
  have hcast : ((tickPrescaler x - 1 : ℕ) : ℚ) + 1 = tickPrescaler x := by
    rw [Nat.cast_pred hpos, sub_add_cancel]
  rw [hpsc, programPair_arr_toNat s j _ hreload, programPair_ccr, hcast]
  refine ⟨by omega, one_le_tickReload hx, hreload, fun hne => le_tickReload_of_one_lt hnonneg ?_, ?_,
    tickPrescaler_mul_tickReload_le hnonneg, sub_tickPrescaler_lt x⟩
  · by_contra hone
    have hzero : tickPrescaler x - 1 = 0 := by omega
    exact hne (BitVec.eq_of_toNat_eq (hpsc.trans hzero))
  · rw [BitVec.toNat_ofNat, Nat.mod_eq_of_lt (by omega)]

/-- Settles O35: the period is not 0 (`one_le_tickReload`), the compare value is already half of it, and 50 percent writes that
half (`dutyWord_fifty`). -/
theorem halfDutyAfterAutoPwChangesNothing : Obligations.HalfDutyAfterAutoPwChangesNothing := by
  intro us s t h hok hv hslot
  obtain ⟨k, hk, hx, -, rfl⟩ := exec_setAutoPw_eq_ok h hok
  set x := periodTicks s.tr.busclk us
  set u := (s.programPair k (tickPrescaler x) (tickReload x)).returnOk
  have harr : u.tr.regs.arr.toNat = tickReload x := programPair_arr_toNat s k _ (tickReload_le (zero_le_one.trans hx))
  have hperiod : u.tr.regs.arr ≠ 0 := by
    intro h0
    have hzero : u.tr.regs.arr.toNat = 0 := congrArg BitVec.toNat h0
    have hreload := one_le_tickReload hx
    omega
  have hbound : u.tr.channel u.blk.bindSlot = some k := (congrArg s.tr.channel hslot).trans hk
  rw [exec_setDuty_of_bound dutyAccepted_fifty hperiod hv hbound, dutyWord_fifty, harr,
    State.writeCcr_of_get (programPair_ccr s k _ _)]
  rfl

/-- Settles O36: both runs program the pair for their `X` (`resolve_of_attainable`), and `tickPrescaler_mono`. -/
theorem setAutoPwDependsOnTheProductOnly : Obligations.SetAutoPwDependsOnTheProductOnly := by
  intro us vs s c k hu hv hx hle hlt hk
  have hy : 1 ≤ periodTicks c vs := hx.trans hle
  refine ⟨_, _, exec_setAutoPw_of_found (resolve_of_attainable hu hx (hle.trans_lt hlt)) hk,
    exec_setAutoPw_of_found (resolve_of_attainable hv hy hlt) hk, ?_, fun heq => ?_⟩
  · have hmax : tickPrescaler (periodTicks c vs) ≤ 65535 := (tickPrescaler_le_iff (zero_le_one.trans hy)).2 hlt
    have hmono := tickPrescaler_mono hle
    rw [programPair_psc_toNat _ _ _ hmax, programPair_psc_toNat _ _ _ (hmono.trans hmax)]
    exact Nat.sub_le_sub_right hmono 1
  · rw [heq]
    exact ⟨rfl, rfl⟩

end Sys2Proof.Machine

/-! # SET_ARR, SET_CCR, SET_PSR (spec/44_raw_registers.md)

Each raw command is one register write and its answer; only SET_CCR has a check before the write, and that check reads `SUPP` and
the block's channel, no register. -/

namespace Sys2Proof.Machine

open Sys2Proof

/-! ### What the raw commands answer (R140 to R143) -/

theorem exec_setArr (v : Word) (s : State) : exec (.setArr v) s = .next (s.writeArr v).returnOk := rfl

theorem exec_setPsr (hi v : Half) (s : State) : exec (.setPsr hi v) s = .next (s.writePsc v).returnOk := rfl

/-- The channel a block stands for is a matter of its straps and `SUPP` (R22), whatever the registers hold. -/
theorem State.withRegs_channel (s : State) (g : TimerRegs) : (s.withRegs g).channel = s.channel := rfl

/-- SET_CCR answers by its channel check, writes the compare register of a supported channel, and leaves the binding and the
enable bits (R142, R144). -/
theorem exec_setCcr_effect (v : Word) (s : State) :
    ∃ t, exec (.setCcr v) s = .next t ∧
      t.replies = s.answered (if s.channel = none then .failed .unsupportedChannel else .ok) 0 ∧
      (∀ k, s.channel = some k → t.tr.regs.ccr.get k = v) ∧ t.blk = s.blk ∧ t.tr.regs.en = s.tr.regs.en := by
  obtain ⟨hk, h⟩ | ⟨k, hk, h⟩ := execSetCcr_cases v s
  · exact ⟨_, h, by simp [hk, State.answered_eq_append], by simp [hk], rfl, rfl⟩
  · refine ⟨_, h, by simp [hk, State.answered_eq_append], fun j hj => ?_, rfl, rfl⟩
    obtain rfl : k = j := Option.some.inj (hk.symm.trans hj)
    exact PerChannel.get_set_same _ _ _

/-! ### The operand of SET_PSR (R143) -/

/-- An operand is its upper and its lower half, one after the other. -/
theorem halves_append (a : Word) : (a.extractLsb' 16 16 ++ a.extractLsb' 0 16 : BitVec (16 + 16)) = a :=
  BitVec.extractLsb'_append_extractLsb'

/-! ### The statements -/

/-- Settles O37: SET_ARR is one write and Ok (`exec_setArr`), and a reload value of 0 is what SET_DUTY fails on
(`setDutyWithoutPeriodFails`). -/
theorem setArrStoresTheReloadValue : Obligations.SetArrStoresTheReloadValue := by
  refine ⟨fun w hop => decode_eq_of_fields rfl hop rfl, exec_setArr, fun s t d ht => ?_⟩
  obtain ⟨-, hfails, -⟩ := setDutyWithoutPeriodFails
  exact hfails d t (exec_setArr_arr ht)

/-- Settles O38, by the two sides of the channel check (`execSetCcr_cases`). -/
theorem setCcrStoresTheOwnCompareValue : Obligations.SetCcrStoresTheOwnCompareValue := by
  refine ⟨fun w hop => decode_eq_of_fields rfl hop rfl, fun v s k hk => ?_, fun v s hk => ?_⟩
  · obtain ⟨j, hj, h⟩ := (execSetCcr_cases v s).resolve_left (by simp [hk])
    obtain rfl : j = k := Option.some.inj (hj.symm.trans hk)
    exact h
  · obtain ⟨-, h⟩ := (execSetCcr_cases v s).resolve_right (by simp [hk])
    exact h

/-- Settles O39: the word decodes to the two halves of its operand (`halves_append`), and the lower one is the word modulo
`2 ^ 16`. -/
theorem setPsrStoresTheLowHalf : Obligations.SetPsrStoresTheLowHalf := by
  refine ⟨fun w hop => ⟨w.arg.extractLsb' 16 16, w.arg.extractLsb' 0 16, ?_, ?_⟩, exec_setPsr⟩
  · exact decode_eq_of_fields rfl hop (halves_append w.arg).symm
  · simp only [CmdWord.arg, BitVec.extractLsb'_toNat, Nat.shiftRight_zero]
    omega

/-- Settles O40: SET_ARR and SET_PSR answer Ok in every state; SET_CCR is `exec_setCcr_effect`, under the block's registers and
under the others, since neither the channel check nor the response port looks at them. -/
theorem rawCommandsAnswerAndTouchNoMore : Obligations.RawCommandsAnswerAndTouchNoMore := by
  intro v hi h s g
  obtain ⟨w, hw, hreplies, hccr, hblk, hen⟩ := exec_setCcr_effect v s
  obtain ⟨w', hw', hreplies', hccr', -, -⟩ := exec_setCcr_effect v (s.withRegs g)
  rw [State.withRegs_channel] at hreplies' hccr'
  exact ⟨_, _, w, _, _, w', exec_setArr v s, exec_setPsr hi h s, hw, exec_setArr v (s.withRegs g),
    exec_setPsr hi h (s.withRegs g), hw', rfl, rfl, hreplies, rfl, rfl, hreplies'.trans hreplies.symm, rfl, rfl, rfl, rfl,
    fun k hk => ⟨hccr k hk, hccr' k hk⟩, rfl, rfl, hblk, rfl, rfl, hen⟩

end Sys2Proof.Machine

/-! # ENABLE and DISABLE (spec/45_enable_disable.md)

On a supported channel the two commands are one call and its answer, and differ in the enable bit the call is for (`on`); so each
fact is proved once, about `startStopAnswer` of `State.callStartStop`. -/

namespace Sys2Proof.Machine

open Sys2Proof

/-! ### The channel check (R150, R152, R155) -/

theorem exec_enable_of_channel (a : Word) {s : State} {k : Channel} (hk : s.channel = some k) :
    exec (.enable a) s = .next (startStopAnswer (s.callStartStop k true)) := by
  rw [exec, execEnable, hk]
  rfl

theorem exec_disable_of_channel (a : Word) {s : State} {k : Channel} (hk : s.channel = some k) :
    exec (.disable a) s = .next (startStopAnswer (s.callStartStop k false)) := by
  rw [exec, execDisable, hk]
  rfl

theorem exec_enable_of_unsupported (a : Word) {s : State} (hk : s.channel = none) :
    exec (.enable a) s = .next (s.raise .unsupportedChannel) := by
  rw [exec, execEnable, hk]

theorem exec_disable_of_unsupported (a : Word) {s : State} (hk : s.channel = none) :
    exec (.disable a) s = .next (s.raise .unsupportedChannel) := by
  rw [exec, execDisable, hk]

/-! ### One call and its answer (R151, R153, R154) -/

/-- The enable bit after a call for `on` with the n-th draw. -/
def enAfterCall (n : Nat) (on : Bool) : Bool := if Config.startStopOk n then on else Config.enAfterFailure n

/-- What a call with the n-th draw is answered with. -/
def startStopResult (n : Nat) : Result := if Config.startStopOk n then .ok else .failed .hardwareOperationFailed

theorem enAfterCall_of_ok {n : Nat} (h : Config.startStopOk n = true) (on : Bool) : enAfterCall n on = on := if_pos h

/-- The whole next state: the own enable bit, one draw, one response. -/
theorem startStopAnswer_eq (s : State) (k : Channel) (on : Bool) :
    startStopAnswer (s.callStartStop k on) =
      { s.writeEn k (enAfterCall s.draws on) with
        draws := s.draws + 1
        replies := s.answered (startStopResult s.draws) 0 } := by
  rw [startStopAnswer, startStopResult]
  cases h : Config.startStopOk s.draws with
  | true => exact if_pos h
  | false => exact if_neg (Bool.eq_false_iff.1 h)

theorem startStopAnswer_replies_eq (s : State) (k : Channel) (on : Bool) :
    (startStopAnswer (s.callStartStop k on)).replies = s.answered (startStopResult s.draws) 0 := by
  rw [startStopAnswer_eq]

/-- The channel check of a second command is that of the first. -/
theorem startStopAnswer_channel (s : State) (k : Channel) (on : Bool) :
    (startStopAnswer (s.callStartStop k on)).channel = s.channel := by
  rw [startStopAnswer_eq]
  rfl

/-! ### A second call (R156) -/

/-- Of two writes of one enable bit the second counts. -/
theorem startStopAnswer_writeEn_tr (s : State) (k : Channel) (on v : Bool) :
    ((startStopAnswer (s.callStartStop k on)).writeEn k v).tr = (s.writeEn k v).tr := by
  simp [startStopAnswer_eq]

/-- The whole state after the second of two calls for one bit, beside the state `t` after the first: the second draw decides the
bit, and two successes leave it as the first did. -/
theorem startStopAnswer_twice {s t : State} {k : Channel} {on : Bool} (ht : t = startStopAnswer (s.callStartStop k on)) :
    startStopAnswer (t.callStartStop k on) =
      { t with
        tr := if Config.startStopOk s.draws = true ∧ Config.startStopOk (s.draws + 1) = true then t.tr
              else (s.writeEn k (enAfterCall (s.draws + 1) on)).tr
        draws := s.draws + 2
        replies := t.answered (startStopResult (s.draws + 1)) 0 } := by
  have hdraws : t.draws = s.draws + 1 := by rw [ht, startStopAnswer_eq]
  have hfirst : t.tr = (s.writeEn k (enAfterCall s.draws on)).tr := by rw [ht, startStopAnswer_eq]
  have hsecond : (t.writeEn k (enAfterCall (s.draws + 1) on)).tr = (s.writeEn k (enAfterCall (s.draws + 1) on)).tr := by
    rw [ht, startStopAnswer_writeEn_tr]
  have hboth : Config.startStopOk s.draws = true ∧ Config.startStopOk (s.draws + 1) = true →
      t.tr = (s.writeEn k (enAfterCall (s.draws + 1) on)).tr := by
    rintro ⟨hok, hok'⟩
    rw [hfirst, enAfterCall_of_ok hok, enAfterCall_of_ok hok']
  rw [ite_eq_right_iff.2 hboth, ← hsecond, startStopAnswer_eq, hdraws]
  rfl

/-! ### The statements -/

/-- Settles O41, by `startStopAnswer_eq` for the bit 1. -/
theorem enableStartsTheChannel : Obligations.EnableStartsTheChannel := by
  intro a s k hk
  rw [exec_enable_of_channel a hk, startStopAnswer_eq]
  rfl

/-- Settles O42, by `startStopAnswer_eq` for the bit 0. -/
theorem disableStopsTheChannel : Obligations.DisableStopsTheChannel := by
  intro a s k hk
  rw [exec_disable_of_channel a hk, startStopAnswer_eq]
  rfl

/-- Settles O43: the failed check is one `State.raise`, and neither command is among those that use or write the binding
(`exec_withBinding`). -/
theorem enableDisableUnsupportedChannelFails : Obligations.EnableDisableUnsupportedChannelFails := by
  refine ⟨fun a s hk => ⟨exec_enable_of_unsupported a hk, exec_disable_of_unsupported a hk⟩, fun a s valid slot => ?_⟩
  obtain ⟨t, ht⟩ := exec_next_of_ne_setDuty (i := .enable a) (fun _ => nofun) s
  obtain ⟨u, hu⟩ := exec_next_of_ne_setDuty (i := .disable a) (fun _ => nofun) s
  exact ⟨t, u, ht, hu, exec_withBinding rfl rfl ht valid slot, exec_withBinding rfl rfl hu valid slot⟩

/-- Settles O44: the second command passes the same check (`startStopAnswer_channel`), and what its call makes of the first one's
state is `startStopAnswer_twice`, for either bit. -/
theorem enableTwiceIsEnableOnce : Obligations.EnableTwiceIsEnableOnce := by
  intro a b s k hk
  have hcheck := fun on => (startStopAnswer_channel s k on).trans hk
  exact
    ⟨⟨_, _, exec_enable_of_channel a hk, exec_enable_of_channel b (hcheck true), startStopAnswer_replies_eq s k true,
        startStopAnswer_twice rfl⟩,
      _, _, exec_disable_of_channel a hk, exec_disable_of_channel b (hcheck false), startStopAnswer_replies_eq s k false,
        startStopAnswer_twice rfl⟩

end Sys2Proof.Machine

/-! # Failures (spec/60_exceptions.md)

A failure of a command that calls no open routine is one `State.raise`; a failed INIT keeps what `TR_INIT` did and nothing else,
since R21 leaves no valid binding for it to take away. -/

namespace Sys2Proof.Machine

open Sys2Proof

/-! ### Commands without an open routine (R170) -/

/-- What is raised is what the response says. -/
theorem raise_eq_of_answered {s : State} {f why : Failure} {d : Word}
    (hf : (s.raise f).replies = s.answered (.failed why) d) : s.raise f = s.raise why := by
  have hr : (s.raise f).replies = s.answered (.failed f) 0 := rfl
  obtain ⟨hwhy, -⟩ := State.answered_inj.1 (hr.symm.trans hf)
  rw [Result.failed.inj hwhy]

/-- R170: a failed command that calls no open routine has raised its failure and done nothing before. -/
theorem exec_eq_raise {i : Instr} {s t : State} {why : Failure} {d : Word} (hi : i.callsOpenRoutine = false)
    (h : exec i s = .next t) (hf : t.replies = s.answered (.failed why) d) : t = s.raise why := by
  have notOk {d' : Word} (hok : t.replies = s.answered .ok d') : t = s.raise why :=
    nomatch (State.answered_inj.1 (hok.symm.trans hf)).1
  cases i with
  | init | setAutoFreq | enable | disable => cases hi
  | setDuty d =>
    obtain ⟨f, -, rfl⟩ | ⟨k, -, -, rfl⟩ := execSetDuty_eq_next h
    · exact raise_eq_of_answered hf
    · exact notOk rfl
  | setAutoPw us =>
    obtain ⟨f, e⟩ | ⟨k, psc, arr, -, -, e⟩ := execSetAutoPw_cases us s <;> cases e.symm.trans h
    · exact raise_eq_of_answered hf
    · exact notOk rfl
  | setCcr v =>
    obtain ⟨-, e⟩ | ⟨k, -, e⟩ := execSetCcr_cases v s <;> cases e.symm.trans h
    · exact raise_eq_of_answered hf
    · exact notOk rfl
  | setArr | setPsr | getTim => cases h; exact notOk rfl
  | reserved0 | reservedB | reservedCToF => cases h; exact raise_eq_of_answered hf

/-! ### INIT (R102, R103) -/

/-- R21: a block whose channel is not supported has no valid binding. -/
theorem Block.BindingOk.unbound_of_unsupported {tr : Timer} {b : Block} (h : b.BindingOk tr)
    (hk : tr.channel b.straps.ch = none) : b.bindValid = false := by
  rw [← Bool.not_eq_true]
  intro hv
  obtain ⟨-, hsome⟩ := h hv
  simp [hk] at hsome

/-- INIT's `UnsupportedChannel` comes from the channel check (R103). -/
theorem State.channel_eq_none_of_initResult {s : State} (h : s.initResult = .failed .unsupportedChannel) :
    s.channel = none := by
  unfold State.initResult at h
  split_ifs at h with _ hk
  · cases h
  · exact hk

/-- A failed INIT leaves the block as it was: the binding it would take away is not there. -/
theorem State.blk_afterInit_of_failed {s : State} {why : Failure} (hb : s.blk.BindingOk s.tr)
    (h : s.initResult = .failed why) : s.afterInit.blk = s.blk := by
  rw [State.afterInit, h]
  cases why with
  | unsupportedChannel =>
    have hv : s.blk.bindValid = false := hb.unbound_of_unsupported (State.channel_eq_none_of_initResult h)
    change { s.blk with bindValid := false } = s.blk
    rw [← hv]
  | invalidParameter | configurationUnattainable | hardwareOperationFailed => rfl

/-- R170 (a): a failed INIT keeps what `TR_INIT` did, and nothing else. -/
theorem State.afterInit_of_failed {s : State} {why : Failure} {d : Word} (hb : s.blk.BindingOk s.tr)
    (hf : s.afterInit.replies = s.answered (.failed why) d) :
    s.afterInit = { s with tr := s.tr.init.2, replies := s.afterInit.replies } := by
  have hr : s.afterInit.replies = s.answered s.initResult 0 := rfl
  obtain ⟨hwhy, -⟩ := State.answered_inj.1 (hr.symm.trans hf)
  have hblk : s.afterInit.blk = s.blk := State.blk_afterInit_of_failed hb hwhy
  calc s.afterInit = { s with tr := s.tr.init.2, blk := s.afterInit.blk, replies := s.afterInit.replies } := rfl
    _ = { s with tr := s.tr.init.2, replies := s.afterInit.replies } := by rw [hblk]

/-! ### The statement -/

/-- Settles O50: a command without an open routine by `exec_eq_raise`, INIT by `State.afterInit_of_failed`, ENABLE and DISABLE by
their channel check, and on a supported channel by `startStopAnswer_eq` for either bit; SET_AUTO_FREQ is `exec_setAutoFreq`. -/
theorem failuresLeaveNoTrace : Obligations.FailuresLeaveNoTrace := by
  refine ⟨fun i s t why d hb h hf => ⟨fun hi => ?_, ?_, ?_⟩, fun hz s => ⟨_, _, exec_setAutoFreq hz s⟩, ?_⟩
  · rw [exec_eq_raise hi h hf]
    rfl
  · rintro a rfl
    cases (exec_init a s).symm.trans h
    exact State.afterInit_of_failed hb hf
  · rintro a (rfl | rfl) hk
    · cases (exec_enable_of_unsupported a hk).symm.trans h
      rfl
    · cases (exec_disable_of_unsupported a hk).symm.trans h
      rfl
  · rintro a s k i (rfl | rfl) hk
    · exact ⟨_, _, by rw [exec_enable_of_channel a hk, startStopAnswer_eq]; rfl⟩
    · exact ⟨_, _, by rw [exec_disable_of_channel a hk, startStopAnswer_eq]; rfl⟩

end Sys2Proof.Machine

/-! # Reset and the bus clock (spec/70_reset_and_hazards.md) -/

namespace Sys2Proof.Machine

open Sys2Proof

/-- A step that takes a reset event resets the block it put in front. -/
theorem step_resetBlock {s u : State} {port : Nat} {rest : List HostEvent} (hq : s.queue = .resetBlock port :: rest)
    (hu : { s with queue := rest }.select port = some u) : step s = .next u.resetBlock :=
  step_of_fetch_done (State.fetch_resetBlock hq hu)

/-- A step with no event waiting leaves the machine as it is. -/
theorem step_of_queue_nil {s : State} (hq : s.queue = []) : step s = .next s := by
  rw [step, State.fetch_nil hq]

/-- R190: the block in front, when there, answers on its port without its binding. -/
theorem State.resetBlock_blockAt_front {s : State} (h : s.present = true) :
    s.resetBlock.blockAt s.blk.port = some { s.blk with bindValid := false, bindSlot := 0 } :=
  State.blockAt_front (s := s.resetBlock) h

/-- Settles O12: bringing the addressed block to the front changes no port's block (`State.Inv.exists_inFront`), and the reset
is then an operation on the front block alone (`State.resetBlock_frontOnly`). -/
theorem blockResetLosesOnlyItsBinding : Obligations.BlockResetLosesOnlyItsBinding := by
  intro s port rest b hi hq hb
  obtain ⟨u, hu, hf, rfl⟩ := hi.exists_inFront hb rest
  refine ⟨u.resetBlock, step_resetBlock hq hu, hf.tr, hf.queue, hf.replies, hf.draws, ?_, fun p hp => ?_⟩
  · rw [← hf.port]
    exact State.resetBlock_blockAt_front hf.present
  · calc u.resetBlock.blockAt p = u.blockAt p := u.resetBlock_frontOnly.blockAt_of_ne (hf.port ▸ hp)
      _ = s.blockAt p := hf.blockAt p

/-- Settles O11: the front block is selected by its own port (`State.select_self`), which leaves the machine as it was, so its
reset is the whole step; a change of the bus clock selects no block. -/
theorem hostEventsHaveTheirEffect : Obligations.HostEventsHaveTheirEffect := by
  refine ⟨fun s rest hp hq => ?_, fun s hz rest hq => ?_, fun s hq => step_of_queue_nil hq⟩
  · exact step_resetBlock hq (State.select_self (s := { s with queue := rest }) hp)
  · exact step_of_fetch_done (State.fetch_busClock hq)

end Sys2Proof.Machine
